-- ==== Sys2Proof/Word.lean ====
section
/-! DEFINITION. The word types of the model (R11: a byte is an unsigned integer in 0..255; R8: `BYTE_W` = 8,
`LOOP_COUNT_W` = 16). Nothing here can be mended later, so it holds names only. -/

namespace Sys2Proof

/-- A byte: the unit of frames, of paths and of the sink channel (R8 `BYTE_W`, R11). -/
abbrev Byte := BitVec 8

/-- The 16-bit loop count (R8 `LOOP_COUNT_W`, R24, R60 `a16`). -/
abbrev Half := BitVec 16

/-- A frame index or a byte count: 9 bits (R9, R26, R29). -/
abbrev Count9 := BitVec 9

/-- A response code: 4 bits (R28, R141). -/
abbrev Code4 := BitVec 4

end Sys2Proof
end

