-- ==== Sys2Proof/Syntax.lean ====
section
/-! DEFINITION. The command record the host offers (R60), the command set (R2, R61) with one constructor per
row of the opcode table, and the enumerations of R70 and R141. -/

namespace Sys2Proof

/-- R60: a command record, all of whose fields are sampled together. `plen` is `path.length`. -/
structure Record where
  /-- `cmd_op`: the wire opcode byte; it alone selects the command (R61). -/
  op : Byte
  /-- `cmd_a8`: the play model (0x18) or the volume (0x13). -/
  a8 : Byte
  /-- `cmd_a16`: the loop count (0x19). -/
  a16 : Half
  /-- `cmd_path`, byte 0 first (0x08); `cmd_plen` is its length. -/
  path : List Byte
  deriving DecidableEq, Repr

/-- The five commands (R2). Every command carries the three argument ports of the record, the ones it
ignores too (R63): they are latched with it (R23, R24, R123) and reported by the observation (R130). -/
inductive Instr where
  /-- `stop`, opcode 0x04: reads none of the fields (R63, R105). -/
  | stop (a8 : Byte) (a16 : Half) (path : List Byte)
  /-- `play "<path>"`, opcode 0x08: reads `path` (R63, R104). -/
  | play (a8 : Byte) (a16 : Half) (path : List Byte)
  /-- `setVolume <level>`, opcode 0x13: reads `a8` (R63, R103). -/
  | setVolume (a8 : Byte) (a16 : Half) (path : List Byte)
  /-- `setPlayModel <model>`, opcode 0x18: reads `a8` (R63, R101). -/
  | setPlayModel (a8 : Byte) (a16 : Half) (path : List Byte)
  /-- `setLoopCount <count>`, opcode 0x19: reads `a16` (R63, R102). -/
  | setLoopCount (a8 : Byte) (a16 : Half) (path : List Byte)
  deriving DecidableEq, Repr

/-- R70: the disk sources. Only `flash` is ever emitted (R88). -/
inductive DiskSource where
  | usb | sd | flash | none
  deriving DecidableEq, Repr

/-- R70: the play states. Only `stop` is ever emitted as a play state (R105). -/
inductive PlayState where
  | stop | start | pause
  deriving DecidableEq, Repr

/-- R70: the play models, the legal arguments of `setPlayModel` (R101, R146). -/
inductive PlayModel where
  | allLoop | singleLoop | singleStop
  deriving DecidableEq, Repr

/-- R141: the five causes of an encoding error, one per ENC_ code. -/
inductive Cause where
  | illegalOpcode | pathLength | pathCharset | volumeRange | playModel
  deriving DecidableEq, Repr

end Sys2Proof
end

