-- ==== Sys2Proof/Config.lean ====
section
/-! DEFINITION. The parameters of the block: the fixed ones (R8, R9), the open ones (R10), which a model takes as
an argument with the stated default, and the one free value of the model. -/

namespace Sys2Proof

/-- R8 `START_BYTE`: the first byte of every frame. -/
def Config.startByte : Byte := 0xAA#8

/-- R8 `PATH_MAX`: the longest path accepted, in bytes. -/
def Config.pathMax : Nat := 254

/-- R9 `FRAME_MAX` = 2 + 2 + `PATH_MAX` + 1: the longest frame. -/
def Config.frameMax : Nat := 2 + 2 + Config.pathMax + 1

/-- R10: the open parameters. They are static (R34, R166): no step and no reset changes them (R160). State
holds them so that a claim about every state is a claim about every choice of them (log entry 3). -/
structure Params where
  /-- `PATH_CHARSET`: the bytes accepted in a `play` path (D6). -/
  pathCharset : List Byte
  /-- `VOL_CHECK`: whether `setVolume` rejects a volume above `VOL_MAX` (D9). -/
  volCheck : Bool
  /-- `VOL_MAX`: the highest volume accepted when `VOL_CHECK` is true (D9). -/
  volMax : Byte
  /-- `PATH_IN_MAX`: the longest path the command port can present (D5). -/
  pathInMax : Nat
  deriving DecidableEq, Repr

/-- R10: the stated defaults: printable ASCII 0x20..0x7E, no volume check, 30, 65535. -/
def Params.default : Params where
  pathCharset := (List.range 95).map fun k => BitVec.ofNat 8 (0x20 + k)
  volCheck := false
  volMax := 30#8
  pathInMax := 65535

/-- FREE VALUE (log entry 4): the bytes `LPATH` is left with when a command that does not read the path is
accepted with more path bytes than the register's 254 (R25 bounds the register, R123 writes the path to it). No
rule reads them. It has no body: nothing can be proved of it. -/
opaque Config.overlongPath : List Byte → List Byte

end Sys2Proof
end

