-- ==== Sys2Proof/Machine/State.lean ====
section
/-! DEFINITION. The state of DYFE (R20), the ports the environment drives (R38), the observation (R130), the
reasons a step can stop, and the state right after reset (R160). -/

namespace Sys2Proof.Machine

/-- R21: the sequencer states. The encoding 0b11 is no state, so it is no constructor (I7). -/
inductive SeqState where
  /-- ready for a command -/
  | idle
  /-- offering frame bytes to the sink -/
  | emit
  /-- offering a response to the host -/
  | resp
  deriving DecidableEq, Repr

/-- R38: the values of the input ports in one step, as the host, the sink and the reset source drive them. -/
structure Inputs where
  /-- `rst`: reset (R160). -/
  rst : Bool
  /-- `cmd_valid`: the host offers a command record. -/
  cmdValid : Bool
  /-- `cmd_op`, `cmd_a8`, `cmd_a16`, `cmd_path`, `cmd_plen`: the record on the command port (R60). -/
  cmd : Record
  /-- `tx_ready`: the sink accepts the offered byte. -/
  txReady : Bool
  /-- `tx_err`: the sink reports that the write failed. -/
  txErr : Bool
  /-- `rsp_ready`: the host takes the response. -/
  rspReady : Bool
  deriving DecidableEq, Repr

/-- R130: what a step may append to the observation. -/
inductive Obs where
  /-- by `Accept` (R123) -/
  | accepted (cmd : Record)
  /-- by `SinkAccept` (R124): the sink accepted the byte -/
  | emit (b : Byte)
  /-- by `Take` (R126): the host took the response -/
  | response (code : Code4) (info : Count9)
  /-- by `Reset` (R160) -/
  | reset
  deriving DecidableEq, Repr

/-- R20: the registers of the block, then what the model holds beside them: the parameters (R10), the
observation (R130) and the environment's choices still to come (R13, R121). -/
structure State where
  /-- `ST` (R21). -/
  st : SeqState
  /-- Outside EMIT: whether the latches hold a value (R22 to R25 and R160 give them "no value" at reset, and the only
  entry to EMIT writes all four, R36, so one flag says it of all of them). In EMIT they hold one by construction, and no
  step reads the flag. The model's own field (log entry 2). -/
  latched : Bool
  /-- `LOP` (R22): opcode of the accepted command. -/
  lop : Byte
  /-- `LA8` (R23): play model or volume of the accepted command. -/
  la8 : Byte
  /-- `LA16` (R24): loop count of the accepted command. -/
  la16 : Half
  /-- `LPATH` (R25): raw path bytes of the accepted command. -/
  lpath : List Byte
  /-- `IDX` (R26): index in the frame of the next byte to offer. -/
  idx : Count9
  /-- `ACC` (R27): running checksum of the body bytes already accepted. -/
  acc : Byte
  /-- `RCODE` (R28): code of the response to offer in RESP. -/
  rcode : Code4
  /-- `RINFO` (R29): byte count that accompanies the response. -/
  rinfo : Count9
  /-- The open parameters (R10), constant through the whole run (R34, R166). The model's own field. -/
  params : Params
  /-- The observation of the run so far, in step order (R130). Not block state (R20): the model's own field. -/
  obs : List Obs
  /-- The port values of the steps to come, the next step's first: the environment's free choices (R13, R121). When
  the list is exhausted no actor makes a transfer any more (R122). The model's own field (log entry 1). -/
  inputs : List Inputs
  deriving DecidableEq, Repr

/-- Why a step stops with a fault. Each is safe: the spec says that no run reaches it (R26, R36, R66), and the
obligation ReachableStatesNeverFault states it. -/
inductive Fault where
  /-- Raised by `SinkAccept` when `LOP` and `LPATH` select no frame layout: R66 and R90 are defined only for the five
  opcodes and for paths of at most 254 bytes. Latches as Reset leaves them select none: 0x00 is no opcode (log entries 2
  and 9). Safe. -/
  | noLayout
  /-- Raised by `SinkAccept` when `IDX` is past the last byte of the frame, where R92 gives no byte; R26 says that
  `IDX` never exceeds `FrameLen - 1`. Safe. -/
  | indexPastFrame
  deriving DecidableEq, Repr

/-- Why a step is refused. -/
inductive Refusal where
  /-- Raised by the dispatch for an instruction that has no meaning yet. Safe. No arm raises it. -/
  | notModelled (mnemonic : String)
  /-- Raised by `step` when the schedule puts on the command port a record with more path bytes than
  `PATH_IN_MAX`, which the port cannot present (R10, R38, R60). It refuses an input, never a command. Safe. -/
  | notPresentable
  deriving DecidableEq, Repr

/-- The ports with nothing asserted: no actor makes a transfer (R122). -/
def Inputs.quiet : Inputs where
  rst := false
  cmdValid := false
  cmd := ⟨0#8, 0#8, 0#16, []⟩
  txReady := false
  txErr := false
  rspReady := false

/-- R160, R164: the machine right after the `Reset` event that every run begins with. Each register is at the reset
value of R20; the latches hold no value (`latched` is false), and the bits under that flag are zero (DESIGN CHOICE, log
entry 2). The parameters are the defaults of R10, the observation holds the one `reset` record, and the environment
has nothing scheduled. -/
def State.reset : State where
  st := .idle
  latched := false
  lop := 0#8
  la8 := 0#8
  la16 := 0#16
  lpath := []
  idx := 0#9
  acc := 0#8
  rcode := 0#4
  rinfo := 0#9
  params := Params.default
  obs := [.reset]
  inputs := []

end Sys2Proof.Machine
end

