-- ==== Sys2Proof/Decode.lean ====
section
/-! DEFINITION. The opcode bytes (R61), the decoder from a command record to a command, the encoder back, and the
layout of a record as one number that `decodeTableWord` reads. -/

namespace Sys2Proof

/-- R105: opcode of `stop`, 0000 0100. -/
def opStop : Byte := 0x04#8
/-- R104: opcode of `play`, 0000 1000. -/
def opPlay : Byte := 0x08#8
/-- R103: opcode of `setVolume`, 0001 0011. -/
def opSetVolume : Byte := 0x13#8
/-- R101: opcode of `setPlayModel`, 0001 1000. -/
def opSetPlayModel : Byte := 0x18#8
/-- R102: opcode of `setLoopCount`, 0001 1001. -/
def opSetLoopCount : Byte := 0x19#8

/-- What decoding a record answers: a command, or the one rejection there is, by name (R62). -/
inductive Decoded where
  | instr (i : Instr)
  /-- R62: one of the 251 values of `op` that select no command. -/
  | illegalOpcode (op : Byte)
  deriving DecidableEq, Repr

/-- R61: the opcode alone selects the command, and every bit of it is decoded (mask 0xFF). R62: every other
value selects none. No other field is looked at (R72). -/
def decode (r : Record) : Decoded :=
  if r.op = opStop then .instr (.stop r.a8 r.a16 r.path)
  else if r.op = opPlay then .instr (.play r.a8 r.a16 r.path)
  else if r.op = opSetVolume then .instr (.setVolume r.a8 r.a16 r.path)
  else if r.op = opSetPlayModel then .instr (.setPlayModel r.a8 r.a16 r.path)
  else if r.op = opSetLoopCount then .instr (.setLoopCount r.a8 r.a16 r.path)
  else .illegalOpcode r.op

/-- R61: the record of a command. -/
def encode : Instr → Record
  | .stop a8 a16 path => ⟨opStop, a8, a16, path⟩
  | .play a8 a16 path => ⟨opPlay, a8, a16, path⟩
  | .setVolume a8 a16 path => ⟨opSetVolume, a8, a16, path⟩
  | .setPlayModel a8 a16 path => ⟨opSetPlayModel, a8, a16, path⟩
  | .setLoopCount a8 a16 path => ⟨opSetLoopCount, a8, a16, path⟩

/-- `n` bytes of a number, the least significant one first. -/
def bytesOfNat : Nat → Nat → List Byte
  | 0, _ => []
  | n + 1, w => BitVec.ofNat 8 (w % 256) :: bytesOfNat n (w / 256)

/-- The number whose bytes are the list, the first one least significant. -/
def natOfBytes : List Byte → Nat
  | [] => 0
  | b :: bs => b.toNat + 256 * natOfBytes bs

/-- DESIGN CHOICE (log entry 6): a record as `nbits` bits of one number. Bits 7..0 are `op`, as the opcode table
numbers them; bits 15..8 are `a8`, bits 31..16 are `a16`, and the whole bytes above are the path, byte 0 lowest. The
spec gives the record as parallel ports (R38, R60) and orders only the bits of `op`. -/
def recordOfBits (nbits w : Nat) : Record where
  op := BitVec.ofNat 8 (w % 2 ^ nbits % 256)
  a8 := BitVec.ofNat 8 (w % 2 ^ nbits / 2 ^ 8 % 256)
  a16 := BitVec.ofNat 16 (w % 2 ^ nbits / 2 ^ 16 % 65536)
  path := bytesOfNat ((nbits - 32) / 8) (w % 2 ^ nbits / 2 ^ 32)

/-- How many bits a record takes in that layout. -/
def recordBits (r : Record) : Nat := 32 + 8 * r.path.length

/-- The number of a record in that layout. -/
def recordWord (r : Record) : Nat :=
  r.op.toNat + 2 ^ 8 * r.a8.toNat + 2 ^ 16 * r.a16.toNat + 2 ^ 32 * natOfBytes r.path

/-- The command the decoder reads from an instruction whose bits are `w`. -/
def decodeTableWord (nbits w : Nat) : Option Instr :=
  match decode (recordOfBits nbits w) with
  | .instr i => some i
  | .illegalOpcode _ => none

end Sys2Proof
end

