-- ==== Sys2Proof/Machine/Flags.lean ====
section
/-! DEFINITION. What DYFE has in place of flags (R32: it has none): the checksum of a frame, its running form, and
the response codes, the only status the block reports. -/

namespace Sys2Proof.Machine

/-- The sum of the bytes as naturals (R80: the sum is taken over the naturals and reduced once). -/
def byteSum : List Byte → Nat
  | [] => 0
  | b :: bs => b.toNat + byteSum bs

/-- R80: `Checksum(bs)`, the sum mod 256; defined for every length (R81). -/
def checksum (bs : List Byte) : Byte := BitVec.ofNat 8 (byteSum bs % 256)

/-- R93: the running checksum after the sink accepts the body byte `b`. -/
def accStep (acc b : Byte) : Byte := BitVec.ofNat 8 ((acc.toNat + b.toNat) % 256)

/-- R141: the code of a success. -/
def codeOk : Code4 := 0x0#4

/-- R141: the code of a transport error. -/
def codeTransportError : Code4 := 0x8#4

/-- R141: the code of each encoding error. -/
def causeCode : Cause → Code4
  | .illegalOpcode => 0x1#4
  | .pathLength => 0x2#4
  | .pathCharset => 0x3#4
  | .volumeRange => 0x4#4
  | .playModel => 0x5#4

/-- R141: the codes DYFE can produce; 0x6, 0x7 and 0x9 to 0xF are never produced. -/
def producedCodes : List Code4 := [0x0#4, 0x1#4, 0x2#4, 0x3#4, 0x4#4, 0x5#4, 0x8#4]

end Sys2Proof.Machine
end

