-- ==== Sys2Proof/Machine/Operands.lean ====
section
/-! DEFINITION. The operand forms: the enumerations' bytes (R70), path encoding (R85, R86), the loop-count split (R89),
the payload multiplexer (R90), the frame (R83, R91), its length (R66) and the layout mapper (R92); and the checks of
validation (R143 to R148). All are functions of the command and the parameters, not of the state. -/

namespace Sys2Proof.Machine

/-- R70: the byte of a disk source. -/
def diskSourceByte : DiskSource → Byte
  | .usb => 0x00#8
  | .sd => 0x01#8
  | .flash => 0x02#8
  | .none => 0xFF#8

/-- R70: the byte of a play state. -/
def playStateByte : PlayState → Byte
  | .stop => 0x00#8
  | .start => 0x01#8
  | .pause => 0x02#8

/-- R70: the byte of a play model. -/
def playModelByte : PlayModel → Byte
  | .allLoop => 0x00#8
  | .singleLoop => 0x01#8
  | .singleStop => 0x02#8

/-- R146: the bytes that are a play model. -/
def playModelBytes : List Byte :=
  [playModelByte .allLoop, playModelByte .singleLoop, playModelByte .singleStop]

/-- R85: one path byte, encoded. -/
def encodePathChar (c : Byte) : Byte :=
  if c = 0x2E#8 then 0x2A#8
  else if 0x61#8 ≤ c ∧ c ≤ 0x7A#8 then c - 0x20#8
  else c

/-- R86: a path, encoded byte by byte in the original order. -/
def encodePath (path : List Byte) : List Byte := path.map encodePathChar

/-- R89: `count[15:8]`. -/
def countHigh (count : Half) : Byte := count.extractLsb' 8 8

/-- R89: `count[7:0]`. -/
def countLow (count : Half) : Byte := count.extractLsb' 0 8

/-- R87: the length byte of `play`, `L + 1`. DESIGN CHOICE (log entry 17): for a path of more than 254 bytes, where
`L + 1` is no byte (R143) and which validation rejects, it is taken mod 256; no step computes it. -/
def playLengthByte (path : List Byte) : Byte := BitVec.ofNat 8 (path.length + 1)

/-- R90: the payload of `stop`, the one byte `PlayState.Stop` (R105, C3). -/
def payloadStop : List Byte := [playStateByte .stop]

/-- R90: the payload of `play`; the disk source is always Flash (R88). -/
def payloadPlay (path : List Byte) : List Byte :=
  [playLengthByte path, diskSourceByte .flash] ++ encodePath path

/-- R90: the payload of `setVolume`. -/
def payloadSetVolume (level : Byte) : List Byte := [0x01#8, level]

/-- R90: the payload of `setPlayModel`. -/
def payloadSetPlayModel (model : Byte) : List Byte := [0x01#8, model]

/-- R90: the payload of `setLoopCount`, high byte first (R44). -/
def payloadSetLoopCount (count : Half) : List Byte := [0x02#8, countHigh count, countLow count]

/-- R90: the payload multiplexer. A field the command does not read has no effect (R63). -/
def payload : Instr → List Byte
  | .stop _ _ _ => payloadStop
  | .play _ _ path => payloadPlay path
  | .setVolume a8 _ _ => payloadSetVolume a8
  | .setPlayModel a8 _ _ => payloadSetPlayModel a8
  | .setLoopCount _ a16 _ => payloadSetLoopCount a16

/-- R66: `FrameLen`, a function of the opcode and, for `play`, of the path length. DESIGN CHOICE (log entry
17): it goes on as 5 + L above the 254 bytes to which R66 bounds L. -/
def frameLen : Instr → Nat
  | .stop _ _ _ => 4
  | .play _ _ path => 5 + path.length
  | .setVolume _ _ _ => 5
  | .setPlayModel _ _ _ => 5
  | .setLoopCount _ _ _ => 6

/-- R83: `BuildFrame(op, payload)`; it validates nothing (R84). -/
def buildFrame (op : Byte) (pl : List Byte) : List Byte :=
  [Config.startByte, op] ++ pl ++ [checksum ([Config.startByte, op] ++ pl)]

/-- R91: the frame without its checksum. -/
def body (i : Instr) : List Byte := [Config.startByte, (encode i).op] ++ payload i

/-- R91: the whole frame of a command. -/
def frame (i : Instr) : List Byte := buildFrame (encode i).op (payload i)

/-- R92: the layout mapper: the byte at index `k` of the frame of `i`, when the running checksum is `acc`. It gives
none past the end of the frame. -/
def frameByte (i : Instr) (acc : Byte) (k : Nat) : Option Byte :=
  if k < frameLen i - 1 then (body i)[k]?
  else if k = frameLen i - 1 then some acc
  else none

/-- R143, R144: the checks of `play`, the length first (R148, D14). The charset is checked on the bytes as the
host presented them. -/
def checkPath (p : Params) (path : List Byte) : Option Cause :=
  if Config.pathMax < path.length then some .pathLength
  else if path.any (fun c => !p.pathCharset.contains c) then some .pathCharset
  else none

/-- R145: the check of `setVolume`; a volume is never clamped. -/
def checkVolume (p : Params) (level : Byte) : Option Cause :=
  if p.volCheck = true ∧ p.volMax < level then some .volumeRange else none

/-- R146: the check of `setPlayModel`. -/
def checkPlayModel (model : Byte) : Option Cause :=
  if playModelBytes.contains model then none else some .playModel

/-- R148: `Validate(cmd)`, the first cause that applies, in the order of the rule. -/
def validate (p : Params) (r : Record) : Option Cause :=
  if r.op ∉ [opStop, opPlay, opSetVolume, opSetPlayModel, opSetLoopCount] then some .illegalOpcode
  else if r.op = opPlay ∧ Config.pathMax < r.path.length then some .pathLength
  else if r.op = opPlay ∧ ∃ c ∈ r.path, c ∉ p.pathCharset then some .pathCharset
  else if r.op = opSetVolume ∧ p.volCheck = true ∧ p.volMax < r.a8 then some .volumeRange
  else if r.op = opSetPlayModel ∧ r.a8 ∉ [0x00#8, 0x01#8, 0x02#8] then some .playModel
  else none

/-- What the latch `LPATH` holds of the path port (R25, R123): the bytes as presented where they fit its 254; else
bytes the spec does not fix, a free value within that bound (log entry 4). No rule reads those. -/
def latchedPath (path : List Byte) : List Byte :=
  if path.length ≤ Config.pathMax then path
  else (Config.overlongPath path).take Config.pathMax

end Sys2Proof.Machine
end

