-- ==== Sys2Proof/WellFormed.lean ====
section
/-! DEFINITION. Which parameters, which records and which commands are well formed. -/

namespace Sys2Proof

/-- R10, D6: the charset is a subset of 0x00..0x7F. -/
def Params.charsetAscii (p : Params) : Bool := p.pathCharset.all fun c => decide (c < 0x80#8)

/-- D6: the charset contains '.' (0x2E). -/
def Params.charsetHasDot (p : Params) : Bool := p.pathCharset.contains 0x2E#8

/-- D6: the charset is closed under `EncodePathChar`, so that an encoded path is accepted again. -/
def Params.charsetClosed (p : Params) : Bool :=
  p.pathCharset.all fun c => p.pathCharset.contains (Machine.encodePathChar c)

/-- R10, D5: the port can present a path that is too long. -/
def Params.portWideEnough (p : Params) : Bool := decide (255 ≤ p.pathInMax)

/-- R10: the parameters are a choice the spec allows. -/
def Params.wellFormed (p : Params) : Bool :=
  p.charsetAscii && p.charsetHasDot && p.charsetClosed && p.portWideEnough

/-- R10, R60: the command port can present the record: `plen` is at most `PATH_IN_MAX`. -/
def Record.presentable (p : Params) (r : Record) : Bool := decide (r.path.length ≤ p.pathInMax)

/-- A command is well formed when the command port can present its record. -/
def Instr.wellFormed (p : Params) (i : Instr) : Bool := (encode i).presentable p

end Sys2Proof
end

