-- ==== Sys2Proof/Machine/Ops.lean ====
section
/-! DEFINITION. The named operations over the registers: latching a command, TAKING AN ERROR (the block's one
exception entry, R140, R150, R151), the return from it (`Take`, R126, R152), reset (R160), and the outputs (R39). -/

namespace Sys2Proof.Machine

/-- R21: the 2-bit encoding of the sequencer state. -/
def seqCode : SeqState → BitVec 2
  | .idle => 0b00#2
  | .emit => 0b01#2
  | .resp => 0b10#2

/-- R130: append one record to the observation. -/
def State.observe (o : Obs) (s : State) : State := { s with obs := s.obs ++ [o] }

/-- R123, the valid case: latch the record, clear `IDX` and `ACC`, enter EMIT. -/
def State.startFrame (r : Record) (s : State) : State :=
  { s with st := .emit, latched := true, lop := r.op, la8 := r.a8, la16 := r.a16,
           lpath := latchedPath r.path, idx := 0#9, acc := 0#8 }

/-- Every entry to RESP (R28, R29): the code and the count of the response are written. This is the whole of what
taking an error writes (R140, R150): no saved register, vector, mode or mask exists. -/
def State.enterResp (code : Code4) (info : Count9) (s : State) : State :=
  { s with st := .resp, rcode := code, rinfo := info }

/-- R124, R125: leaving EMIT sets `IDX` and `ACC` to 0 and enters RESP. -/
def State.endFrame (code : Code4) (info : Count9) (s : State) : State :=
  { s.enterResp code info with idx := 0#9, acc := 0#8 }

/-- R150: taking an encoding error: precise, it writes `RCODE`, `RINFO` (0) and `ST` only. -/
def State.encodingError (c : Cause) (s : State) : State := s.enterResp (causeCode c) 0#9

/-- R125, R147, R151: taking a transport error: `RINFO` is the number of bytes accepted before it. -/
def State.transportError (s : State) : State := s.endFrame codeTransportError s.idx

/-- R126, R152: the return to IDLE. It restores nothing; `RCODE` and `RINFO` keep their values. -/
def State.backToIdle (s : State) : State := { s with st := .idle }

/-- R160: every register to its reset value; the latches hold no value again. The parameters are unchanged. -/
def State.clearRegisters (s : State) : State :=
  { s with st := .idle, latched := false, lop := 0#8, la8 := 0#8, la16 := 0#16, lpath := [],
           idx := 0#9, acc := 0#8, rcode := 0#4, rinfo := 0#9 }

/-- The next step's port values are consumed (R121: a step takes one environment event). -/
def State.popInputs (s : State) : State := { s with inputs := s.inputs.tail }

/-- The record in the latches. -/
def State.latchedRecord (s : State) : Record := ⟨s.lop, s.la8, s.la16, s.lpath⟩

/-- The command being emitted, read from the latches (R92), which in EMIT hold a value (R36). A read that finds no
layout faults, where R66 and R90 define no frame (log entry 9). -/
def State.latchedInstr (s : State) : Except Fault Instr :=
  match decode s.latchedRecord with
  | .instr i => if frameLen i ≤ Config.frameMax then .ok i else .error .noLayout
  | .illegalOpcode _ => .error .noLayout

/-- R123: `Accept(cmd)` with the result of its validation. Where the block is not in IDLE the record is not sampled and
nothing changes (R121, R127, Q5; log entry 5). -/
def State.accept (cause : Option Cause) (r : Record) (s : State) : State :=
  match s.st with
  | .idle =>
    match cause with
    | none => (s.observe (.accepted r)).startFrame r
    | some c => (s.observe (.accepted r)).encodingError c
  | .emit => s
  | .resp => s

/-- R39 `cmd_ready`. -/
def State.cmdReady (s : State) : Bool := decide (s.st = .idle)

/-- R39 `tx_valid`. -/
def State.txValid (s : State) : Bool := decide (s.st = .emit)

/-- R39 `tx_data`: defined only when `ST = EMIT`; elsewhere it carries no meaning, and the model gives it no
value (I8). DESIGN CHOICE (log entry 14): none also in EMIT where the latches give no layout (R66) or `IDX` is past
the frame (R92), in states no run reaches (R26, R36). -/
def State.txData (s : State) : Option Byte :=
  match s.st, s.latchedInstr with
  | .emit, .ok i => frameByte i s.acc s.idx.toNat
  | _, _ => none

/-- R39 `tx_last`. DESIGN CHOICE, unsafe (log entry 14): in EMIT with latches that have no layout, where `FrameLen` is
undefined (R66), the answer is false; no run reaches such a state (R36). -/
def State.txLast (s : State) : Bool :=
  match s.st, s.latchedInstr with
  | .emit, .ok i => decide (s.idx.toNat = frameLen i - 1)
  | _, _ => false

/-- R39 `rsp_valid`. -/
def State.rspValid (s : State) : Bool := decide (s.st = .resp)

/-- R39 `rsp_code`: meaningful only when `ST = RESP` (I8). -/
def State.rspCode (s : State) : Option Code4 :=
  match s.st with
  | .resp => some s.rcode
  | _ => none

/-- R39 `rsp_info`: meaningful only when `ST = RESP` (I8). -/
def State.rspInfo (s : State) : Option Count9 :=
  match s.st with
  | .resp => some s.rinfo
  | _ => none

end Sys2Proof.Machine
end

