-- ==== Sys2Proof/Machine/Playback.lean ====
section
/-! DEFINITION. The commands `play` and `stop` (R104, R105). The meaning of a command is its `Accept` step (R100, R123):
it validates, then latches the record for the sequencer to emit as a frame (R124), or takes the error. -/

namespace Sys2Proof.Machine

/-- R105: `stop` has no check. -/
def execStop (a8 : Byte) (a16 : Half) (path : List Byte) (s : State) :
    Host.Outcome State Fault Refusal :=
  .next (s.accept none (encode (.stop a8 a16 path)))

/-- R104: `play` checks the path's length, then its bytes (R143, R144). -/
def execPlay (a8 : Byte) (a16 : Half) (path : List Byte) (s : State) :
    Host.Outcome State Fault Refusal :=
  .next (s.accept (checkPath s.params path) (encode (.play a8 a16 path)))

end Sys2Proof.Machine
end

