-- ==== Sys2Proof/Machine/Settings.lean ====
section
/-! DEFINITION. The commands `setVolume`, `setPlayModel` and `setLoopCount` (R101 to R103). As in Playback, the
meaning of a command is its `Accept` step (R100, R123). -/

namespace Sys2Proof.Machine

/-- R103: `setVolume` checks the volume where `VOL_CHECK` says so (R145). -/
def execSetVolume (a8 : Byte) (a16 : Half) (path : List Byte) (s : State) :
    Host.Outcome State Fault Refusal :=
  .next (s.accept (checkVolume s.params a8) (encode (.setVolume a8 a16 path)))

/-- R101: `setPlayModel` checks that the byte is a play model (R146). -/
def execSetPlayModel (a8 : Byte) (a16 : Half) (path : List Byte) (s : State) :
    Host.Outcome State Fault Refusal :=
  .next (s.accept (checkPlayModel a8) (encode (.setPlayModel a8 a16 path)))

/-- R102: `setLoopCount` has no check: every 16-bit count is accepted. -/
def execSetLoopCount (a8 : Byte) (a16 : Half) (path : List Byte) (s : State) :
    Host.Outcome State Fault Refusal :=
  .next (s.accept none (encode (.setLoopCount a8 a16 path)))

end Sys2Proof.Machine
end

