-- ==== Sys2Proof/Machine/Dispatch.lean ====
section
/-! DEFINITION. One arm per command: the meaning of each (R100 to R105). -/

namespace Sys2Proof.Machine

def exec (i : Instr) (s : State) : Host.Outcome State Fault Refusal :=
  match i with
  | .stop a8 a16 path => Sys2Proof.Machine.execStop a8 a16 path s
  | .play a8 a16 path => Sys2Proof.Machine.execPlay a8 a16 path s
  | .setVolume a8 a16 path => Sys2Proof.Machine.execSetVolume a8 a16 path s
  | .setPlayModel a8 a16 path => Sys2Proof.Machine.execSetPlayModel a8 a16 path s
  | .setLoopCount a8 a16 path => Sys2Proof.Machine.execSetLoopCount a8 a16 path s

end Sys2Proof.Machine
end

