-- ==== Sys2Proof/Machine/Sequencer.lean ====
section
/-! DEFINITION. The events of R121 other than the acceptance of a legal command, and the choice of the step's event
from the ports (R149). Each operation does nothing where its event is not enabled (R121). -/

namespace Sys2Proof.Machine

/-- R121: the environment events. -/
inductive Event where
  | accept (cmd : Record)
  | sinkAccept
  | sinkFail
  | take
  | reset
  | idle
  deriving DecidableEq, Repr

/-- R149: the one event of a step: `Reset` first, then in IDLE an offered command, in EMIT a failure before an
acceptance (R125), in RESP the host's taking the response; else `Idle` (R122). -/
def selectEvent (inp : Inputs) (st : SeqState) : Event :=
  if inp.rst = true then .reset
  else
    match st with
    | .idle => if inp.cmdValid = true then .accept inp.cmd else .idle
    | .emit =>
      if inp.txErr = true then .sinkFail
      else if inp.txReady = true then .sinkAccept
      else .idle
    | .resp => if inp.rspReady = true then .take else .idle

/-- R124: the state after the sink accepts the byte `b` of a frame of `n` bytes. -/
def State.afterByte (n : Nat) (b : Byte) (s : State) : State :=
  if s.idx.toNat < n - 1 then
    { s.observe (.emit b) with acc := accStep s.acc b, idx := s.idx + 1#9 }
  else (s.observe (.emit b)).endFrame codeOk (BitVec.ofNat 9 n)

/-- R124: `SinkAccept`. -/
def sinkAccept (s : State) : Host.Outcome State Fault Refusal :=
  match s.st with
  | .emit =>
    match s.latchedInstr with
    | .error f => .fault f
    | .ok i =>
      match frameByte i s.acc s.idx.toNat with
      | none => .fault .indexPastFrame
      | some b => .next (s.afterByte (frameLen i) b)
  | .idle => .next s
  | .resp => .next s

/-- R125: `SinkFail`: the failed byte is not added to the wire, the rest is never offered. -/
def sinkFail (s : State) : Host.Outcome State Fault Refusal :=
  match s.st with
  | .emit => .next s.transportError
  | .idle => .next s
  | .resp => .next s

/-- R126: `Take`: the host takes the response. -/
def take (s : State) : Host.Outcome State Fault Refusal :=
  match s.st with
  | .resp => .next (s.observe (.response s.rcode s.rinfo)).backToIdle
  | .idle => .next s
  | .emit => .next s

/-- R160: `Reset`, enabled in every state. -/
def resetEvent (s : State) : Host.Outcome State Fault Refusal :=
  .next (s.clearRegisters.observe .reset)

/-- R142: `Accept` of a record whose opcode selects no command: the opcode is checked before anything else, and the
record is reported as accepted like any other (R123, R130). -/
def acceptIllegal (r : Record) (s : State) : Host.Outcome State Fault Refusal :=
  .next (s.accept (some .illegalOpcode) r)

/-- The port values of the next step; nothing is asserted once the schedule is exhausted (R122). -/
def State.ports (s : State) : Inputs := s.inputs.headD Inputs.quiet

/-- The port values of a step in which the host offers `r` and nothing else is asserted. -/
def Inputs.offer (r : Record) : Inputs := { Inputs.quiet with cmdValid := true, cmd := r }

/-- The state in which the host offers `r` in the very next step and the block is ready for it: `ST` is IDLE and the
next step's ports carry the record, whatever they carried (log entry 7). -/
def State.withOffer (r : Record) (s : State) : State :=
  { s with st := .idle, inputs := Inputs.offer r :: s.inputs.tail }

end Sys2Proof.Machine
end

