-- ==== Sys2Proof/Machine/Events.lean ====
section
/-! DEFINITION. The step relation of R121: the state and one environment event give the next state; and the step under
given port values, whose event R149 chooses. -/

namespace Sys2Proof.Machine

/-- `Accept(cmd)` (R123): a record the port can present is decoded (R61) and its command run; an illegal opcode takes
its error (R142). -/
def acceptRecord (r : Record) (s : State) : Host.Outcome State Fault Refusal :=
  if r.presentable s.params = true then
    match decode r with
    | .instr i => exec i s
    | .illegalOpcode _ => acceptIllegal r s
  else .refused .notPresentable

/-- R121: the step of one event. -/
def fire (e : Event) (s : State) : Host.Outcome State Fault Refusal :=
  match e with
  | .accept r => acceptRecord r s
  | .sinkAccept => sinkAccept s
  | .sinkFail => sinkFail s
  | .take => take s
  | .reset => resetEvent s
  | .idle => .next s

/-- One step under given port values: the event they and `ST` make (R149) is stepped. -/
def portStep (inp : Inputs) (s : State) : Host.Outcome State Fault Refusal :=
  fire (selectEvent inp s.st) s

end Sys2Proof.Machine
end

