-- ==== Sys2Proof/Machine/Step.lean ====
section
/-! DEFINITION. One step of DYFE, and where a command is placed so that the next step runs it. -/

namespace Sys2Proof.Machine

/-- One step: the port values of the step are taken from the schedule (log entry 1). -/
def step (s : State) : Host.Outcome State Fault Refusal := portStep s.ports s.popInputs

/-- `s` with the command of the bits `w` where step takes its next command: on the command port, in IDLE. -/
def State.withFetchWord (s : State) (nbits w : Nat) : State := s.withOffer (recordOfBits nbits w)

end Sys2Proof.Machine
end

