-- ==== Sys2Proof/Machine/Text.lean ====
section
/-! DEFINITION. The one-per-line text form of commands (R73): a reader from a line to a command record, and a writer of
the `.cmd` line of any record. It is notation (D25): no step of the machine uses it. There are no pseudo-commands
(R74): one line stands for at most one record. -/

namespace Sys2Proof.Machine

/-- What a line stands for: nothing (blank, or a comment only), or one command record. -/
inductive Line where
  | blank
  | command (r : Record)
  deriving DecidableEq, Repr

/-- The characters after the leading spaces. -/
def dropSpaces : List Char → List Char
  | [] => []
  | c :: cs => if c = ' ' then dropSpaces cs else c :: cs

/-- R73: nothing follows but spaces and, perhaps, a comment (a `;` starts one). -/
def lineEnds (cs : List Char) : Bool :=
  match dropSpaces cs with
  | [] => true
  | c :: _ => decide (c = ';')

/-- The characters up to the next space or comment, and the rest. -/
def takeWord : List Char → List Char × List Char
  | [] => ([], [])
  | c :: cs =>
    if c = ' ' ∨ c = ';' then ([], c :: cs)
    else (c :: (takeWord cs).1, (takeWord cs).2)

/-- The rest after the given characters, where the line begins with them. -/
def expect : List Char → List Char → Option (List Char)
  | [], cs => some cs
  | _ :: _, [] => none
  | k :: ks, c :: cs => if k = c then expect ks cs else none

/-- The value of a decimal digit. -/
def decDigit (c : Char) : Option Nat :=
  if 48 ≤ c.toNat ∧ c.toNat ≤ 57 then some (c.toNat - 48) else none

/-- The value of a hexadecimal digit, in either case. -/
def hexDigit (c : Char) : Option Nat :=
  if 48 ≤ c.toNat ∧ c.toNat ≤ 57 then some (c.toNat - 48)
  else if 65 ≤ c.toNat ∧ c.toNat ≤ 70 then some (c.toNat - 55)
  else if 97 ≤ c.toNat ∧ c.toNat ≤ 102 then some (c.toNat - 87)
  else none

/-- The value of digits in base `base`, most significant first, after those already read. -/
def digitsValue (base : Nat) (digit : Char → Option Nat) : Nat → List Char → Option Nat
  | acc, [] => some acc
  | acc, c :: cs =>
    match digit c with
    | some d => digitsValue base digit (base * acc + d) cs
    | none => none

/-- R73: a number (leading zeros allowed, either case of digit: log entry 15): `0x` and exactly `hexDigits` hexadecimal digits, or a decimal number of at most `max`. -/
def numeral (hexDigits max : Nat) (w : List Char) : Option Nat :=
  match w with
  | [] => none
  | '0' :: 'x' :: ds => if ds.length = hexDigits then digitsValue 16 hexDigit 0 ds else none
  | ds =>
    match digitsValue 10 decDigit 0 ds with
    | some n => if n ≤ max then some n else none
    | none => none

/-- A number as the next word of the line, and the rest. -/
def readNumber (hexDigits max : Nat) (cs : List Char) : Option (Nat × List Char) :=
  match numeral hexDigits max (takeWord cs).1 with
  | some n => some (n, (takeWord cs).2)
  | none => none

/-- R73, R14: the bytes of a quoted path from after its opening quote, and the rest after the closing one: `\xHH` is the
byte HH, an escaped quote is 0x22, an escaped backslash is 0x5C, and any other character is its ASCII code. DESIGN CHOICE
(log entry 15), where R73 is silent: a backslash before anything else, `\x` without two hexadecimal digits, a character
that is not ASCII, and a path that is not closed, make the line no command. -/
def readQuoted : List Char → Option (List Byte × List Char)
  | [] => none
  | '"' :: rest => some ([], rest)
  | '\\' :: 'x' :: h :: l :: rest =>
    match hexDigit h, hexDigit l, readQuoted rest with
    | some hv, some lv, some (bs, r) => some (BitVec.ofNat 8 (16 * hv + lv) :: bs, r)
    | _, _, _ => none
  | '\\' :: '"' :: rest =>
    match readQuoted rest with
    | some (bs, r) => some (0x22#8 :: bs, r)
    | none => none
  | '\\' :: '\\' :: rest =>
    match readQuoted rest with
    | some (bs, r) => some (0x5C#8 :: bs, r)
    | none => none
  | '\\' :: _ => none
  | c :: rest =>
    if c.toNat < 0x80 then
      match readQuoted rest with
      | some (bs, r) => some (BitVec.ofNat 8 c.toNat :: bs, r)
      | none => none
    else none

/-- A quoted path, its opening quote included, and the rest. -/
def readPath (cs : List Char) : Option (List Byte × List Char) :=
  match expect ['"'] cs with
  | some rest => readQuoted rest
  | none => none

/-- R73: an optional `key=value` field of `.cmd`, with its value where it is absent. -/
def readField {α : Type} (key : List Char) (read : List Char → Option (α × List Char)) (absent : α)
    (cs : List Char) : Option (α × List Char) :=
  match expect key (dropSpaces cs) with
  | some rest => read rest
  | none => some (absent, cs)

/-- R73: the play models by name. -/
def playModelNames : List (List Char × PlayModel) :=
  [(['A', 'l', 'l', 'L', 'o', 'o', 'p'], .allLoop),
   (['S', 'i', 'n', 'g', 'l', 'e', 'L', 'o', 'o', 'p'], .singleLoop),
   (['S', 'i', 'n', 'g', 'l', 'e', 'S', 't', 'o', 'p'], .singleStop)]

/-- R73: a model, by name or as a byte. -/
def readModel (cs : List Char) : Option (Nat × List Char) :=
  match playModelNames.find? (fun e => decide (e.1 = (takeWord cs).1)) with
  | some e => some ((playModelByte e.2).toNat, (takeWord cs).2)
  | none => readNumber 2 255 cs

/-- The record a reading stands for, where the line ends after it. -/
def closeLine {α : Type} (mk : α → Record) (read : Option (α × List Char)) : Option Line :=
  match read with
  | some (x, rest) => if lineEnds rest then some (.command (mk x)) else none
  | none => none

/-- R73: the four fields of `.cmd`; absent ones are 0, and the path is empty. -/
def readCmd (cs : List Char) : Option (Record × List Char) :=
  match expect ['o', 'p', '='] (dropSpaces cs) with
  | none => none
  | some cs1 =>
    match readNumber 2 255 cs1 with
    | none => none
    | some (op, cs2) =>
      match readField ['a', '8', '='] (readNumber 2 255) 0 cs2 with
      | none => none
      | some (a8, cs3) =>
        match readField ['a', '1', '6', '='] (readNumber 4 65535) 0 cs3 with
        | none => none
        | some (a16, cs4) =>
          match readField ['p', 'a', 't', 'h', '='] readPath [] cs4 with
          | none => none
          | some (path, rest) =>
            some (⟨BitVec.ofNat 8 op, BitVec.ofNat 8 a8, BitVec.ofNat 16 a16, path⟩, rest)

/-- R73: what a line stands for. The mnemonics write the field their command reads (R63) and set every other
field to 0 or empty. -/
def parseLine (line : List Char) : Option Line :=
  if lineEnds line then some .blank
  else
    let word := (takeWord (dropSpaces line)).1
    let rest := dropSpaces (takeWord (dropSpaces line)).2
    if word = ['s', 't', 'o', 'p'] then
      closeLine (fun _ => ⟨opStop, 0#8, 0#16, []⟩) (some ((), rest))
    else if word = ['p', 'l', 'a', 'y'] then
      closeLine (fun path => ⟨opPlay, 0#8, 0#16, path⟩) (readPath rest)
    else if word = ['s', 'e', 't', 'V', 'o', 'l', 'u', 'm', 'e'] then
      closeLine (fun n => ⟨opSetVolume, BitVec.ofNat 8 n, 0#16, []⟩) (readNumber 2 255 rest)
    else if word = ['s', 'e', 't', 'P', 'l', 'a', 'y', 'M', 'o', 'd', 'e', 'l'] then
      closeLine (fun n => ⟨opSetPlayModel, BitVec.ofNat 8 n, 0#16, []⟩) (readModel rest)
    else if word = ['s', 'e', 't', 'L', 'o', 'o', 'p', 'C', 'o', 'u', 'n', 't'] then
      closeLine (fun n => ⟨opSetLoopCount, 0#8, BitVec.ofNat 16 n, []⟩) (readNumber 4 65535 rest)
    else if word = ['.', 'c', 'm', 'd'] then closeLine id (readCmd rest)
    else none

/-- The records of a program, one line each (R73); none where some line is no command. -/
def parseProgram : List (List Char) → Option (List Record)
  | [] => some []
  | line :: lines =>
    match parseLine line, parseProgram lines with
    | some .blank, some rs => some rs
    | some (.command r), some rs => some (r :: rs)
    | _, _ => none

/-- The hexadecimal digit of a value below 16. -/
def hexChar (n : Nat) : Char :=
  ['0', '1', '2', '3', '4', '5', '6', '7', '8', '9', 'A', 'B', 'C', 'D', 'E', 'F'].getD n '0'

/-- The two hexadecimal digits of a byte. -/
def hexByte (b : Byte) : List Char := [hexChar (b.toNat / 16), hexChar (b.toNat % 16)]

/-- R73: the `.cmd` line of a record, every byte of the path as `\xHH`. -/
def cmdLine (r : Record) : List Char :=
  ['.', 'c', 'm', 'd', ' ', 'o', 'p', '=', '0', 'x'] ++ hexByte r.op
  ++ [' ', 'a', '8', '=', '0', 'x'] ++ hexByte r.a8
  ++ [' ', 'a', '1', '6', '=', '0', 'x'] ++ hexByte (countHigh r.a16) ++ hexByte (countLow r.a16)
  ++ [' ', 'p', 'a', 't', 'h', '=', '"'] ++ r.path.flatMap (fun b => '\\' :: 'x' :: hexByte b) ++ ['"']

end Sys2Proof.Machine
end

