-- ==== Sys2Proof/Safety.lean ====
section
/-! DEFINITION. What claims about runs are stated in: runs, the wire history, commands and responses of an observation
(R130), what a run is to show (R100, R132), and the invariant of the reachable states. -/

namespace Sys2Proof.Machine

/-- `k` steps, stopping at the first fault or refusal. -/
def runSteps : Nat → State → Host.Outcome State Fault Refusal
  | 0, s => .next s
  | k + 1, s =>
    match step s with
    | .next t => runSteps k t
    | .fault f => .fault f
    | .refused r => .refused r

/-- R130: the wire history: the bytes the sink accepted, in order. -/
def wireOf : List Obs → List Byte
  | [] => []
  | .emit b :: os => b :: wireOf os
  | _ :: os => wireOf os

/-- The command records accepted, in order. -/
def acceptedOf : List Obs → List Record
  | [] => []
  | .accepted r :: os => r :: acceptedOf os
  | _ :: os => acceptedOf os

/-- The responses taken, in order. -/
def responsesOf : List Obs → List (Code4 × Count9)
  | [] => []
  | .response c n :: os => (c, n) :: responsesOf os
  | _ :: os => responsesOf os

/-- R131: a run is complete when `ST` is IDLE and every accepted command has a response. -/
def complete (s : State) : Prop :=
  s.st = .idle ∧ (responsesOf s.obs).length = (acceptedOf s.obs).length

/-- R91, R132: the frame of a record, `[]` for one that validation rejects. -/
def expectedFrame (p : Params) (r : Record) : List Byte :=
  match validate p r, decode r with
  | none, .instr i => frame i
  | _, _ => []

/-- R100, R132: the response to a record when the sink accepts every byte. -/
def expectedResponse (p : Params) (r : Record) : Code4 × Count9 :=
  match validate p r, decode r with
  | none, .instr i => (codeOk, BitVec.ofNat 9 (frame i).length)
  | some c, _ => (causeCode c, 0#9)
  | none, .illegalOpcode _ => (causeCode .illegalOpcode, 0#9)

/-- A step's ports in which nothing interrupts a frame: no reset, no failed byte (R95, R132). -/
def Inputs.undisturbed (inp : Inputs) : Bool := !inp.rst && !inp.txErr

/-- The bytes the sink is ready to accept over some steps. -/
def readyCount (ins : List Inputs) : Nat := (ins.filter (fun inp => inp.txReady)).length

/-- The invariant of the states a run from reset reaches. -/
structure Invariant (s : State) : Prop where
  /-- R26, R27: outside EMIT, `IDX` and `ACC` are 0. -/
  outside_emit : s.st ≠ .emit → s.idx = 0#9 ∧ s.acc = 0#8
  /-- R36: the only entry to EMIT writes the latches. -/
  emit_latched : s.st = .emit → s.latched = true
  /-- R22, R123: the latches hold a record that passed validation. -/
  latched_valid : s.latched = true → validate s.params s.latchedRecord = none
  /-- R25: `LPATH` is at most 254 bytes long. -/
  lpath_bound : s.lpath.length ≤ Config.pathMax
  /-- R26, R94: in EMIT, `IDX` is within the frame and `ACC` is the checksum of the body bytes before it. -/
  emit_running : s.st = .emit → ∀ i, decode s.latchedRecord = .instr i →
    s.idx.toNat < frameLen i ∧ s.acc = checksum ((body i).take s.idx.toNat)
  /-- R141: only the codes of the table are produced. -/
  code_produced : s.rcode ∈ producedCodes
  /-- R141: in RESP the count goes with the code. -/
  resp_info : s.st = .resp →
    (s.rcode = codeOk → 4 ≤ s.rinfo.toNat ∧ s.rinfo.toNat ≤ 259)
    ∧ (s.rcode = codeTransportError → s.rinfo.toNat ≤ 258)
    ∧ (s.rcode ≠ codeOk → s.rcode ≠ codeTransportError → s.rinfo = 0#9)

end Sys2Proof.Machine
end

