-- ==== Sys2Proof/Certificates/Slice0/Obligations.lean ====
section
/-! DEFINITION. The statements for the provers, in the order of the spec's files. A statement about a state is about
every state that meets its hypotheses; the states' one invariant is `Invariant` (Safety.lean), with its own
statements InvariantHoldsAtReset and EveryStepKeepsInvariant. A rule about one event is stated of `portStep`, the step
under given port values; StepTakesScheduledPorts carries it to `step`, which takes them from the schedule. DYFE has no memory and no general registers (R30, R40), so
a frame is an equation of whole states: what it does not name is as before. -/

open Sys2Proof Sys2Proof.Machine

/-! ## Encoding (30_encoding.md) -/

/-- R61: the opcode alone selects the command, and the five opcodes select the five commands. -/
def Obligations.OpcodeSelectsCommand : Prop :=
  ∀ (a8 : Byte) (a16 : Half) (path : List Byte),
    decode ⟨0x04#8, a8, a16, path⟩ = .instr (.stop a8 a16 path)
    ∧ decode ⟨0x08#8, a8, a16, path⟩ = .instr (.play a8 a16 path)
    ∧ decode ⟨0x13#8, a8, a16, path⟩ = .instr (.setVolume a8 a16 path)
    ∧ decode ⟨0x18#8, a8, a16, path⟩ = .instr (.setPlayModel a8 a16 path)
    ∧ decode ⟨0x19#8, a8, a16, path⟩ = .instr (.setLoopCount a8 a16 path)

/-- A few opcode-table words, written out from the table, decode to their commands; a word that is no row of it does not
decode. The table fixes the opcode bits; the zero operands and the empty path of an 8-bit word are the model's choice,
log entry 6. -/
def Obligations.TableWordsDecode : Prop :=
  decodeTableWord 8 0b00000100 = some (.stop 0#8 0#16 [])
  ∧ decodeTableWord 8 0b00001000 = some (.play 0#8 0#16 [])
  ∧ decodeTableWord 8 0b00010011 = some (.setVolume 0#8 0#16 [])
  ∧ decodeTableWord 8 0b00011000 = some (.setPlayModel 0#8 0#16 [])
  ∧ decodeTableWord 8 0b00011001 = some (.setLoopCount 0#8 0#16 [])
  ∧ decodeTableWord 8 0b00000010 = none

/-- R62, R142: the 251 opcodes in the rule's ranges are those that are not one of the five; an offered record with one
of them is answered with ENC_ILLEGAL_OPCODE, whatever its other fields hold, and no byte is emitted. -/
def Obligations.IllegalOpcodeRejected : Prop :=
  (∀ op : Byte,
    (op ≤ 0x03#8 ∨ (0x05#8 ≤ op ∧ op ≤ 0x07#8) ∨ (0x09#8 ≤ op ∧ op ≤ 0x12#8)
      ∨ (0x14#8 ≤ op ∧ op ≤ 0x17#8) ∨ 0x1A#8 ≤ op)
    ↔ op ∉ [0x04#8, 0x08#8, 0x13#8, 0x18#8, 0x19#8])
  ∧ ∀ (inp : Inputs) (s : State), inp.cmd.op ∉ [0x04#8, 0x08#8, 0x13#8, 0x18#8, 0x19#8] →
    s.st = .idle → inp.rst = false → inp.cmdValid = true → inp.cmd.presentable s.params = true →
    portStep inp s = .next { s with
      st := .resp, rcode := 0x1#4, rinfo := 0#9, obs := s.obs ++ [.accepted inp.cmd] }

/-- R63: a field not listed for an opcode affects neither validation nor the frame. -/
def Obligations.UnlistedFieldsIgnored : Prop :=
  ∀ (p : Params) (r r' : Record), r.op = r'.op →
    (r.op = 0x18#8 ∨ r.op = 0x13#8 → r.a8 = r'.a8) →
    (r.op = 0x19#8 → r.a16 = r'.a16) →
    (r.op = 0x08#8 → r.path = r'.path) →
    validate p r = validate p r' ∧ expectedFrame p r = expectedFrame p r'

/-- R64: start byte, opcode, payload, and a checksum that is the sum of all bytes before it mod 256. -/
def Obligations.FrameLayout : Prop :=
  ∀ (i : Instr) (n : Nat), (frame i).length = n →
    (frame i)[0]? = some 0xAA#8
    ∧ (frame i)[1]? = some (encode i).op
    ∧ ((frame i).drop 2).take (n - 3) = payload i
    ∧ ∃ c, (frame i)[n - 1]? = some c
      ∧ c.toNat = (((frame i).take (n - 1)).map BitVec.toNat).sum % 256

/-- R66, R91: the length of the whole frame is `FrameLen`. For a `play` path of more than 254 bytes, beyond the bound of
R66, this is the model's choice, log entry 17. -/
def Obligations.FrameLengthTable : Prop :=
  ∀ (a8 : Byte) (a16 : Half) (path : List Byte),
    (frame (.setPlayModel a8 a16 path)).length = 5
    ∧ (frame (.setLoopCount a8 a16 path)).length = 6
    ∧ (frame (.setVolume a8 a16 path)).length = 5
    ∧ (frame (.play a8 a16 path)).length = 5 + path.length
    ∧ (frame (.stop a8 a16 path)).length = 4
    ∧ ∀ i, (frame i).length = frameLen i

/-- R67, R68: the byte at index 2 of every frame DYFE emits is the number of payload bytes after it, so a receiver finds
the frame's end from the first three bytes. -/
def Obligations.CountByteTellsFrameLength : Prop :=
  ∀ (p : Params) (i : Instr), validate p (encode i) = none →
    ∃ b, (frame i)[2]? = some b ∧ b.toNat + 1 = (payload i).length
      ∧ (frame i).length = 4 + b.toNat
      ∧ b.toNat = match i with
        | .setPlayModel _ _ _ => 1
        | .setLoopCount _ _ _ => 2
        | .setVolume _ _ _ => 1
        | .play _ _ path => path.length + 1
        | .stop _ _ _ => 0

/-- The number layout of a record (the model's choice, log entry 6; the spec orders only the opcode's bits) loses no bit:
every command, with every operand, is read back from its word. -/
def Obligations.DecodeOfEncodedWord : Prop :=
  ∀ i : Instr, decodeTableWord (recordBits (encode i)) (recordWord (encode i)) = some i

/-- The other direction, of the same layout (log entry 6): each word of a whole number of bytes has one reading, and its
command is encoded as that word. -/
def Obligations.EncodeOfDecodedWord : Prop :=
  ∀ (n w : Nat) (i : Instr), w < 2 ^ (32 + 8 * n) →
    decodeTableWord (32 + 8 * n) w = some i →
    recordWord (encode i) = w ∧ recordBits (encode i) = 32 + 8 * n

/-- R73: the `.cmd` line writes any record, the ones with an illegal opcode too. -/
def Obligations.CmdLineWritesEveryRecord : Prop :=
  ∀ r : Record, parseLine (cmdLine r) = some (.command r)

/-- R73: the mnemonics write the field their command reads and set every other field to 0 or empty (numbers in
hexadecimal, with a comment after the command; the named models are the three bytes). -/
def Obligations.MnemonicsWriteTheirField : Prop :=
  ∀ (b : Byte) (count : Half),
    parseLine ("stop ; comment").toList = some (.command ⟨0x04#8, 0#8, 0#16, []⟩)
    ∧ parseLine ("setVolume 0x".toList ++ hexByte b) = some (.command ⟨0x13#8, b, 0#16, []⟩)
    ∧ parseLine ("setPlayModel 0x".toList ++ hexByte b) = some (.command ⟨0x18#8, b, 0#16, []⟩)
    ∧ parseLine ("setLoopCount 0x".toList ++ hexByte (countHigh count) ++ hexByte (countLow count))
        = some (.command ⟨0x19#8, 0#8, count, []⟩)
    ∧ parseLine ("setPlayModel AllLoop").toList = some (.command ⟨0x18#8, 0x00#8, 0#16, []⟩)
    ∧ parseLine ("setPlayModel SingleLoop").toList = some (.command ⟨0x18#8, 0x01#8, 0#16, []⟩)
    ∧ parseLine ("setPlayModel SingleStop").toList = some (.command ⟨0x18#8, 0x02#8, 0#16, []⟩)
    ∧ ∀ path : List Byte,
        parseLine ("play \"".toList ++ path.flatMap (fun c => "\\x".toList ++ hexByte c) ++ "\"".toList)
          = some (.command ⟨0x08#8, 0#8, 0#16, path⟩)

/-! ## Datapath (40_frame.md) -/

/-- R80: the checksum is the sum mod 256, and adding one byte at a time and reducing after each addition gives the
same. -/
def Obligations.ChecksumIsRunningSum : Prop :=
  ∀ bs : List Byte,
    (checksum bs).toNat = (bs.map BitVec.toNat).sum % 256
    ∧ checksum bs = bs.foldl accStep 0#8

/-- R85: the three cases of the path encoding of one byte. -/
def Obligations.PathCharCases : Prop :=
  ∀ c : Byte,
    (c = 0x2E#8 → encodePathChar c = 0x2A#8)
    ∧ (0x61 ≤ c.toNat ∧ c.toNat ≤ 0x7A → (encodePathChar c).toNat = c.toNat - 0x20)
    ∧ (c ≠ 0x2E#8 → ¬(0x61 ≤ c.toNat ∧ c.toNat ≤ 0x7A) → encodePathChar c = c)

/-- R86, R45: a path's encoding has its length, and its byte `i` stands at frame index 4 + `i`. -/
def Obligations.PathBytesInOrder : Prop :=
  ∀ (a8 : Byte) (a16 : Half) (path : List Byte),
    (encodePath path).length = path.length
    ∧ ∀ k < path.length,
        (frame (.play a8 a16 path))[4 + k]? = (path[k]?).map encodePathChar

/-- R87: the `play` length byte is `L + 1`, which does not wrap for an accepted path; R88: the disk source after it is
Flash. -/
def Obligations.PlayLengthByteDoesNotWrap : Prop :=
  ∀ (p : Params) (a8 : Byte) (a16 : Half) (path : List Byte),
    checkPath p path = none →
    ∃ b, (frame (.play a8 a16 path))[2]? = some b ∧ b.toNat = path.length + 1
      ∧ (frame (.play a8 a16 path))[3]? = some 0x02#8

/-- R89, R44: the shifted split, high byte first; the two kinds of right shift agree. -/
def Obligations.LoopCountSplitShifted : Prop :=
  ∀ (a8 : Byte) (count : Half) (path : List Byte),
    (countHigh count).toNat = count.toNat / 256
    ∧ (countLow count).toNat = count.toNat % 256
    ∧ countHigh count = ((count >>> 8) &&& 0xFF#16).setWidth 8
    ∧ countHigh count = ((count.sshiftRight 8) &&& 0xFF#16).setWidth 8
    ∧ countLow count = (count &&& 0xFF#16).setWidth 8
    ∧ (frame (.setLoopCount a8 count path))[3]? = some (countHigh count)
    ∧ (frame (.setLoopCount a8 count path))[4]? = some (countLow count)

/-- R101 to R105: the bytes of the five frames, with their checksums. For a `play` path of more than 254 bytes, which
validation rejects, the length byte `L + 1` mod 256 is the model's choice, log entry 17. -/
def Obligations.FramesOfTheCommands : Prop :=
  ∀ (a8 : Byte) (a16 : Half) (path : List Byte),
    frame (.setPlayModel a8 a16 path) = [0xAA#8, 0x18#8, 0x01#8, a8, 0xC3#8 + a8]
    ∧ frame (.setLoopCount a8 a16 path)
        = [0xAA#8, 0x19#8, 0x02#8, countHigh a16, countLow a16, 0xC5#8 + countHigh a16 + countLow a16]
    ∧ frame (.setVolume a8 a16 path) = [0xAA#8, 0x13#8, 0x01#8, a8, 0xBE#8 + a8]
    ∧ frame (.stop a8 a16 path) = [0xAA#8, 0x04#8, 0x00#8, 0xAE#8]
    ∧ frame (.play a8 a16 path)
        = [0xAA#8, 0x08#8, BitVec.ofNat 8 (path.length + 1), 0x02#8] ++ path.map encodePathChar
          ++ [checksum ([0xAA#8, 0x08#8, BitVec.ofNat 8 (path.length + 1), 0x02#8] ++ path.map encodePathChar)]

/-- R97: path encoding is idempotent. -/
def Obligations.PathEncodingIdempotent : Prop :=
  ∀ path : List Byte, encodePath (encodePath path) = encodePath path

/-- R98: `.` and `*`, and a lower-case letter and its upper-case letter, alias wherever they stand, and only they do. -/
def Obligations.AliasedPathsSameFrame : Prop :=
  (∀ c d : Byte, encodePathChar c = encodePathChar d ↔
    (c = d ∨ (c = 0x2E#8 ∧ d = 0x2A#8) ∨ (c = 0x2A#8 ∧ d = 0x2E#8)
      ∨ (0x61#8 ≤ c ∧ c ≤ 0x7A#8 ∧ d = c - 0x20#8) ∨ (0x61#8 ≤ d ∧ d ≤ 0x7A#8 ∧ c = d - 0x20#8)))
  ∧ ∀ (a8 : Byte) (a16 : Half) (path path' : List Byte), path.length = path'.length →
    (∀ k < path.length, (path[k]?).map encodePathChar = (path'[k]?).map encodePathChar) →
    frame (.play a8 a16 path) = frame (.play a8 a16 path')

/-- R99: changing any one byte of a frame, the checksum too, breaks its checksum; two changes can cancel. -/
def Obligations.OneByteChangeDetected : Prop :=
  (∀ (op : Byte) (pl : List Byte) (k : Nat) (b : Byte),
    k < (buildFrame op pl).length → (buildFrame op pl)[k]? ≠ some b →
    ((buildFrame op pl).set k b).getLast?
      ≠ some (checksum ((buildFrame op pl).set k b).dropLast))
  ∧ ∃ (i : Instr) (k k' : Nat) (b b' : Byte), k ≠ k'
    ∧ k < (frame i).length ∧ (frame i)[k]? ≠ some b
    ∧ k' < (frame i).length ∧ (frame i)[k']? ≠ some b'
    ∧ (((frame i).set k b).set k' b').getLast?
      = some (checksum (((frame i).set k b).set k' b').dropLast)

/-! ## The commands (41_commands.md): each completes, and where it takes its error -/

/-- R105, R123: `stop` is accepted in IDLE in every state, and starts its frame. -/
def Obligations.StopCompletes : Prop :=
  ∀ (a8 : Byte) (a16 : Half) (path : List Byte) (s : State), s.st = .idle →
    exec (.stop a8 a16 path) s = .next { s with
      st := .emit, latched := true, lop := 0x04#8, la8 := a8, la16 := a16,
      lpath := latchedPath path, idx := 0#9, acc := 0#8,
      obs := s.obs ++ [.accepted ⟨0x04#8, a8, a16, path⟩] }

/-- R104, R123: `play` of a path of at most 254 bytes, all in the charset, is accepted in IDLE and starts its frame; the
path is latched as presented. -/
def Obligations.PlayCompletes : Prop :=
  ∀ (a8 : Byte) (a16 : Half) (path : List Byte) (s : State), s.st = .idle →
    path.length ≤ 254 → (∀ c ∈ path, c ∈ s.params.pathCharset) →
    exec (.play a8 a16 path) s = .next { s with
      st := .emit, latched := true, lop := 0x08#8, la8 := a8, la16 := a16,
      lpath := path, idx := 0#9, acc := 0#8,
      obs := s.obs ++ [.accepted ⟨0x08#8, a8, a16, path⟩] }

/-- R103, R123: `setVolume` of a volume that is not checked, or not above the limit, is accepted in IDLE, unclamped. -/
def Obligations.SetVolumeCompletes : Prop :=
  ∀ (a8 : Byte) (a16 : Half) (path : List Byte) (s : State), s.st = .idle →
    (s.params.volCheck = false ∨ a8 ≤ s.params.volMax) →
    exec (.setVolume a8 a16 path) s = .next { s with
      st := .emit, latched := true, lop := 0x13#8, la8 := a8, la16 := a16,
      lpath := latchedPath path, idx := 0#9, acc := 0#8,
      obs := s.obs ++ [.accepted ⟨0x13#8, a8, a16, path⟩] }

/-- R101, R123: `setPlayModel` of one of the three models is accepted in IDLE. -/
def Obligations.SetPlayModelCompletes : Prop :=
  ∀ (a8 : Byte) (a16 : Half) (path : List Byte) (s : State), s.st = .idle →
    (a8 = 0x00#8 ∨ a8 = 0x01#8 ∨ a8 = 0x02#8) →
    exec (.setPlayModel a8 a16 path) s = .next { s with
      st := .emit, latched := true, lop := 0x18#8, la8 := a8, la16 := a16,
      lpath := latchedPath path, idx := 0#9, acc := 0#8,
      obs := s.obs ++ [.accepted ⟨0x18#8, a8, a16, path⟩] }

/-- R102, R123: `setLoopCount` of every count is accepted in IDLE. -/
def Obligations.SetLoopCountCompletes : Prop :=
  ∀ (a8 : Byte) (a16 : Half) (path : List Byte) (s : State), s.st = .idle →
    exec (.setLoopCount a8 a16 path) s = .next { s with
      st := .emit, latched := true, lop := 0x19#8, la8 := a8, la16 := a16,
      lpath := latchedPath path, idx := 0#9, acc := 0#8,
      obs := s.obs ++ [.accepted ⟨0x19#8, a8, a16, path⟩] }

/-- R25: what the latch `LPATH` holds is the path as presented where it fits; the bound of 254 bytes holds whatever the
free value of log entry 4 is. -/
def Obligations.LatchedPathFits : Prop :=
  ∀ path : List Byte, (latchedPath path).length ≤ 254 ∧ (path.length ≤ 254 → latchedPath path = path)

/-- A command given to the block while it is busy is not sampled, and nothing changes (the model's reading of an event that
is not enabled, log entry 5). -/
def Obligations.BusyBlockTurnsCommandAway : Prop :=
  ∀ (i : Instr) (s : State), s.st ≠ .idle → exec i s = .next s

/-! ## The sequencer (42_sequencer.md) -/

/-- Where the next scheduled ports offer a record that decodes to a well-formed command and the block is in IDLE, the step
is the command's meaning, on the state that has consumed those ports (the schedule is the model's own, log entry 1). -/
def Obligations.StepRunsDecodedCommand : Prop :=
  ∀ (i : Instr) (s : State), s.st = .idle → s.ports.rst = false → s.ports.cmdValid = true →
    decode s.ports.cmd = .instr i → i.wellFormed s.params = true →
    step s = exec i { s with inputs := s.inputs.tail }

/-- A step takes the next scheduled port values, and once the schedule is exhausted nothing changes any more (the schedule
is the model's own, log entry 1). -/
def Obligations.StepTakesScheduledPorts : Prop :=
  ∀ (s : State) (inp : Inputs) (rest : List Inputs),
    (s.inputs = inp :: rest → step s = portStep inp { s with inputs := rest })
    ∧ (s.inputs = [] → step s = .next s)

/-- The word that `withFetchWord` places is the command the next step runs (log entry 7: the model's choice of where a
command is placed). -/
def Obligations.PlacedWordRuns : Prop :=
  ∀ (nbits w : Nat) (i : Instr) (s : State), decodeTableWord nbits w = some i →
    i.wellFormed s.params = true →
    step (s.withFetchWord nbits w) = exec i { s with st := .idle, inputs := s.inputs.tail }

/-- R122: when the enabled actor makes no transfer, the state does not change; there is no timeout. -/
def Obligations.IdleStepChangesNothing : Prop :=
  ∀ (inp : Inputs) (s : State), inp.rst = false →
    (s.st = .idle → inp.cmdValid = false) →
    (s.st = .emit → inp.txReady = false ∧ inp.txErr = false) →
    (s.st = .resp → inp.rspReady = false) →
    portStep inp s = .next s

/-- R123, R148: accepting a record is validating it: without a cause it is latched and its frame starts (`LPATH` as
LatchedPathFits says: for more than 254 bytes of a path that is not read, the model's choice, log entry 4); with a cause
only the response is written. -/
def Obligations.AcceptFollowsValidation : Prop :=
  ∀ (inp : Inputs) (s : State), s.st = .idle → inp.rst = false → inp.cmdValid = true →
    inp.cmd.presentable s.params = true →
    (validate s.params inp.cmd = none → portStep inp s = .next { s with
      st := .emit, latched := true, lop := inp.cmd.op, la8 := inp.cmd.a8, la16 := inp.cmd.a16,
      lpath := latchedPath inp.cmd.path, idx := 0#9, acc := 0#8,
      obs := s.obs ++ [.accepted inp.cmd] })
    ∧ ∀ c, validate s.params inp.cmd = some c → portStep inp s = .next { s with
      st := .resp, rcode := causeCode c, rinfo := 0#9, obs := s.obs ++ [.accepted inp.cmd] }

/-- R124, R93: the sink accepts the offered byte: a body byte is summed and the index moves on; the checksum byte ends
the frame with a success. -/
def Obligations.SinkAcceptMovesOneByte : Prop :=
  ∀ (inp : Inputs) (s : State) (i : Instr), Invariant s → s.st = .emit →
    decode s.latchedRecord = .instr i →
    inp.rst = false → inp.txErr = false → inp.txReady = true →
    ∃ b, s.txData = some b ∧
      (s.idx.toNat < frameLen i - 1 → portStep inp s = .next { s with
        acc := BitVec.ofNat 8 ((s.acc.toNat + b.toNat) % 256), idx := s.idx + 1#9,
        obs := s.obs ++ [.emit b] })
      ∧ (¬ s.idx.toNat < frameLen i - 1 → portStep inp s = .next { s with
        st := .resp, rcode := 0x0#4, rinfo := BitVec.ofNat 9 (frameLen i), idx := 0#9, acc := 0#8,
        obs := s.obs ++ [.emit b] })

/-- R125: the sink fails the offered byte, `tx_ready` asserted or not: the command ends, the byte is not on the wire. -/
def Obligations.SinkFailEndsFrame : Prop :=
  ∀ (inp : Inputs) (s : State), s.st = .emit → inp.rst = false → inp.txErr = true →
    portStep inp s = .next { s with
      st := .resp, rcode := 0x8#4, rinfo := s.idx, idx := 0#9, acc := 0#8 }

/-- R126: the host takes the response; `RCODE` and `RINFO` keep their values. -/
def Obligations.TakeReturnsToIdle : Prop :=
  ∀ (inp : Inputs) (s : State), s.st = .resp → inp.rst = false → inp.rspReady = true →
    portStep inp s = .next { s with
      st := .idle, obs := s.obs ++ [.response s.rcode s.rinfo] }

/-- R127: a command is accepted only in IDLE; EMIT is left through RESP, and RESP only by taking the response, but for
Reset; and (R129) no step sets `IDX` to anything other than `IDX + 1` or 0. -/
def Obligations.OneCommandInFlight : Prop :=
  ∀ (inp : Inputs) (s t : State), portStep inp s = .next t → inp.rst = false →
    (s.st ≠ .idle → acceptedOf t.obs = acceptedOf s.obs)
    ∧ (s.st = .emit → t.st = .emit ∨ t.st = .resp)
    ∧ (s.st = .resp → t.st = .resp
        ∨ (t.st = .idle ∧ responsesOf t.obs = responsesOf s.obs ++ [(s.rcode, s.rinfo)]))
    ∧ (t.idx = s.idx ∨ t.idx = 0#9 ∨ t.idx = s.idx + 1#9)

/-- R128: in EMIT the offer changes only in a step in which the sink answers or reset is asserted. -/
def Obligations.OfferIsStable : Prop :=
  ∀ (inp : Inputs) (s t : State), s.st = .emit → portStep inp s = .next t →
    inp.rst = false → inp.txErr = false → inp.txReady = false →
    t.txValid = s.txValid ∧ t.txData = s.txData ∧ t.txLast = s.txLast

/-- R121: a step appends at most one record to the observation. -/
def Obligations.AtMostOneRecordPerStep : Prop :=
  ∀ (inp : Inputs) (s t : State), portStep inp s = .next t →
    t.obs = s.obs ∨ ∃ o, t.obs = s.obs ++ [o]

/-- R39: the handshake outputs are functions of `ST` alone, and outside the states named the data outputs carry no value
(I8). -/
def Obligations.OutputsFollowState : Prop :=
  ∀ s : State,
    (s.cmdReady = true ↔ s.st = .idle) ∧ (s.txValid = true ↔ s.st = .emit) ∧ (s.rspValid = true ↔ s.st = .resp)
    ∧ (s.st ≠ .emit → s.txData = none ∧ s.txLast = false)
    ∧ (s.st = .resp → s.rspCode = some s.rcode ∧ s.rspInfo = some s.rinfo)
    ∧ (s.st ≠ .resp → s.rspCode = none ∧ s.rspInfo = none)

/-- R51: the command ports are sampled only in the accepting step: after it, and while no command is offered, what they
hold has no effect. -/
def Obligations.LateCommandPortsIgnored : Prop :=
  ∀ (inp : Inputs) (s : State) (r : Record),
    (s.st ≠ .idle → ∀ v, portStep { inp with cmdValid := v, cmd := r } s = portStep inp s)
    ∧ (inp.cmdValid = false → portStep { inp with cmd := r } s = portStep inp s)

/-- R39, R92, R94: in EMIT the byte offered is the byte of the latched command's frame at `IDX`, and `tx_last` says
whether it is the last. -/
def Obligations.OfferedByteIsFrameByte : Prop :=
  ∀ (s : State) (i : Instr), Invariant s → s.st = .emit → decode s.latchedRecord = .instr i →
    s.txData = (frame i)[s.idx.toNat]? ∧ s.txData ≠ none
    ∧ (s.txLast = true ↔ s.idx.toNat + 1 = (frame i).length)

/-- R100, R95: an accepted command, with the sink accepting every byte in its own time: after the `Accept` step and
any steps in which neither reset nor a failure occurs and the sink is ready `FrameLen` times, exactly the frame is on
the wire and the response is OK with the frame's length. Whatever the command ports hold meanwhile has no effect. A
host that asserts `rsp_ready` before the frame ends is left to RunLaw. The schedule the steps consume is the model's own,
log entry 1. -/
def Obligations.CommandEmitsItsFrame : Prop :=
  ∀ (s t : State) (i : Instr) (ins rest : List Inputs), Invariant s → s.st = .idle →
    validate s.params (encode i) = none → exec i s = .next t →
    s.inputs = ins ++ rest →
    (∀ inp ∈ ins, inp.undisturbed = true ∧ inp.rspReady = false) →
    readyCount ins = frameLen i →
    ∃ u, runSteps ins.length t = .next u
      ∧ u.st = .resp ∧ u.rspCode = some codeOk ∧ u.rspInfo = some (BitVec.ofNat 9 (frame i).length)
      ∧ u.obs = s.obs ++ [.accepted (encode i)] ++ (frame i).map Obs.emit
      ∧ u.inputs = rest ∧ u.params = s.params

/-- R147, R151: the same, with the sink failing a byte after it has accepted `k` bytes of the frame: those bytes stay
on the wire, and the response is TRANSPORT_ERROR with `k`. The schedule the steps consume is the model's own, log entry
1. -/
def Obligations.FailedFrameReportsAcceptedBytes : Prop :=
  ∀ (s t : State) (i : Instr) (ins : List Inputs) (bad : Inputs) (rest : List Inputs) (k : Nat),
    Invariant s → s.st = .idle →
    validate s.params (encode i) = none → exec i s = .next t →
    s.inputs = ins ++ bad :: rest →
    (∀ inp ∈ ins, inp.undisturbed = true) →
    readyCount ins = k → k < frameLen i →
    bad.rst = false → bad.txErr = true →
    ∃ u, runSteps (ins.length + 1) t = .next u
      ∧ u.st = .resp ∧ u.rspCode = some 0x8#4 ∧ u.rspInfo = some (BitVec.ofNat 9 k)
      ∧ u.obs = s.obs ++ [.accepted (encode i)] ++ ((frame i).take k).map Obs.emit
      ∧ u.inputs = rest

/-- R132, R131: a run from IDLE to IDLE with no reset and no failed byte: its wire history is the frames of the valid
commands it accepted, one after the other, and its responses are theirs in order, so that it is complete. The schedule the run consumes is the model's own, log
entry 1. -/
def Obligations.RunLaw : Prop :=
  ∀ (k : Nat) (s t : State), Invariant s → s.st = .idle →
    (∀ inp ∈ s.inputs.take k, inp.undisturbed = true) →
    runSteps k s = .next t → t.st = .idle →
    (∃ os, t.obs = s.obs ++ os
      ∧ wireOf os = (acceptedOf os).flatMap (expectedFrame s.params)
      ∧ responsesOf os = (acceptedOf os).map (expectedResponse s.params))
    ∧ (complete s → complete t)

/-! ## Errors and responses (60_exceptions.md) -/

/-- R148: which cause validation reports, cause by cause; a path that is both too long and has a byte outside the
charset reports its length. -/
def Obligations.ValidationReportsFirstCause : Prop :=
  ∀ (p : Params) (r : Record),
    (validate p r = some .illegalOpcode ↔
      r.op ≠ 0x04#8 ∧ r.op ≠ 0x08#8 ∧ r.op ≠ 0x13#8 ∧ r.op ≠ 0x18#8 ∧ r.op ≠ 0x19#8)
    ∧ (validate p r = some .pathLength ↔ r.op = 0x08#8 ∧ 254 < r.path.length)
    ∧ (validate p r = some .pathCharset ↔
        r.op = 0x08#8 ∧ r.path.length ≤ 254 ∧ ∃ c ∈ r.path, c ∉ p.pathCharset)
    ∧ (validate p r = some .volumeRange ↔
        r.op = 0x13#8 ∧ p.volCheck = true ∧ p.volMax.toNat < r.a8.toNat)
    ∧ (validate p r = some .playModel ↔
        r.op = 0x18#8 ∧ r.a8 ≠ 0x00#8 ∧ r.a8 ≠ 0x01#8 ∧ r.a8 ≠ 0x02#8)

/-- R150: an encoding error writes only `RCODE`, `RINFO` and `ST` in the accepting step, and emits no byte. -/
def Obligations.EncodingErrorIsPrecise : Prop :=
  ∀ (inp : Inputs) (c : Cause) (s : State), s.st = .idle → inp.rst = false →
    inp.cmdValid = true → inp.cmd.presentable s.params = true →
    validate s.params inp.cmd = some c →
    ∃ t, portStep inp s = .next t ∧ t.rcode = causeCode c ∧ t.rinfo = 0#9 ∧ t.st = .resp
      ∧ wireOf t.obs = wireOf s.obs
      ∧ t.lop = s.lop ∧ t.la8 = s.la8 ∧ t.la16 = s.la16 ∧ t.lpath = s.lpath ∧ t.latched = s.latched
      ∧ t.idx = s.idx ∧ t.acc = s.acc ∧ t.params = s.params ∧ t.inputs = s.inputs

/-- R143, R144: where `play` takes an error: the length first, then the charset. -/
def Obligations.PlayErrors : Prop :=
  ∀ (a8 : Byte) (a16 : Half) (path : List Byte) (s : State), s.st = .idle →
    (254 < path.length → exec (.play a8 a16 path) s = .next { s with
      st := .resp, rcode := 0x2#4, rinfo := 0#9, obs := s.obs ++ [.accepted ⟨0x08#8, a8, a16, path⟩] })
    ∧ (path.length ≤ 254 → (∃ c ∈ path, c ∉ s.params.pathCharset) →
      exec (.play a8 a16 path) s = .next { s with
        st := .resp, rcode := 0x3#4, rinfo := 0#9, obs := s.obs ++ [.accepted ⟨0x08#8, a8, a16, path⟩] })

/-- R145: where `setVolume` takes an error: only where the check is on, above the limit; otherwise the volume is
latched as it is, never clamped. -/
def Obligations.SetVolumeError : Prop :=
  ∀ (a8 : Byte) (a16 : Half) (path : List Byte) (s : State), s.st = .idle →
    (s.params.volCheck = true → s.params.volMax < a8 →
      exec (.setVolume a8 a16 path) s = .next { s with
        st := .resp, rcode := 0x4#4, rinfo := 0#9, obs := s.obs ++ [.accepted ⟨0x13#8, a8, a16, path⟩] })
    ∧ ((s.params.volCheck = false ∨ a8 ≤ s.params.volMax) →
      ∃ t, exec (.setVolume a8 a16 path) s = .next t ∧ t.st = .emit ∧ t.la8 = a8)

/-- R146: where `setPlayModel` takes an error: on every byte that is no play model. -/
def Obligations.SetPlayModelError : Prop :=
  ∀ (a8 : Byte) (a16 : Half) (path : List Byte) (s : State), s.st = .idle →
    a8 ≠ 0x00#8 → a8 ≠ 0x01#8 → a8 ≠ 0x02#8 →
    exec (.setPlayModel a8 a16 path) s = .next { s with
      st := .resp, rcode := 0x5#4, rinfo := 0#9, obs := s.obs ++ [.accepted ⟨0x18#8, a8, a16, path⟩] }

/-- R149: of several requests in one step the first of the rule's order is taken: Reset, then a failure, then an
acceptance; in IDLE and RESP Reset comes first. -/
def Obligations.EventPriority : Prop :=
  ∀ (inp : Inputs) (s : State),
    (inp.rst = true → portStep inp s = resetEvent s)
    ∧ (inp.rst = false → s.st = .emit → inp.txErr = true → portStep inp s = sinkFail s)
    ∧ (inp.rst = false → s.st = .emit → inp.txErr = false → inp.txReady = true →
        portStep inp s = sinkAccept s)
    ∧ (inp.rst = false → s.st = .idle → inp.cmdValid = true → portStep inp s = acceptRecord inp.cmd s)
    ∧ (inp.rst = false → s.st = .resp → inp.rspReady = true → portStep inp s = take s)

/-- R141: the response offered in RESP has a code of the table, with the count the table gives it. -/
def Obligations.OfferedResponseIsInTable : Prop :=
  ∀ (s : State), Invariant s → s.st = .resp →
    ∃ c n, s.rspCode = some c ∧ s.rspInfo = some n ∧
      ((c = 0x0#4 ∧ 4 ≤ n.toNat ∧ n.toNat ≤ 259)
      ∨ ((c = 0x1#4 ∨ c = 0x2#4 ∨ c = 0x3#4 ∨ c = 0x4#4 ∨ c = 0x5#4) ∧ n = 0#9)
      ∨ (c = 0x8#4 ∧ n.toNat ≤ 258))

/-! ## Reset (70_reset_and_hazards.md), absent values (10_state.md) and the invariant -/

/-- R160: `Reset`, from every state: the latches hold no value, every other register has its reset value, the parameters
are unchanged, one `reset` record is appended, and a command can be accepted. -/
def Obligations.ResetClearsRegisters : Prop :=
  ∀ (inp : Inputs) (s : State), inp.rst = true →
    ∃ t, portStep inp s = .next t ∧ t.st = .idle ∧ t.latched = false ∧ t.idx = 0#9 ∧ t.acc = 0#8
      ∧ t.rcode = 0x0#4 ∧ t.rinfo = 0#9 ∧ t.params = s.params
      ∧ t.obs = s.obs ++ [.reset] ∧ t.inputs = s.inputs ∧ t.cmdReady = true

/-- R161, R162: reset leaves the wire history as it was and produces no response; R163: in IDLE it changes no output, and
its only trace is the `reset` record. -/
def Obligations.ResetDropsTheCommand : Prop :=
  ∀ (inp : Inputs) (s t : State), inp.rst = true → portStep inp s = .next t →
    t.obs = s.obs ++ [.reset]
    ∧ wireOf t.obs = wireOf s.obs ∧ responsesOf t.obs = responsesOf s.obs
    ∧ acceptedOf t.obs = acceptedOf s.obs
    ∧ t.txValid = false ∧ t.rspValid = false
    ∧ (s.st = .idle → t.cmdReady = s.cmdReady ∧ t.txValid = s.txValid ∧ t.txData = s.txData
        ∧ t.txLast = s.txLast ∧ t.rspValid = s.rspValid ∧ t.rspCode = s.rspCode ∧ t.rspInfo = s.rspInfo)

/-- R34, R166: no step changes the parameters. -/
def Obligations.ParametersAreStatic : Prop :=
  ∀ (inp : Inputs) (s t : State), portStep inp s = .next t → t.params = s.params

/-- R22 to R25, R36: a latch that holds no value is never read. Outside EMIT, where alone a latch can hold none (the
invariant's `emit_latched`), whatever bits stand under the flag (log entry 2: the model's choice), the step answers the
same, in a state with the same outputs, until an acceptance writes the latches. -/
def Obligations.AbsentLatchesNeverRead : Prop :=
  ∀ (inp : Inputs) (s t : State) (lop la8 : Byte) (la16 : Half) (lpath : List Byte),
    s.latched = false → s.st ≠ .emit → portStep inp s = .next t →
    ∃ t', portStep inp { s with lop := lop, la8 := la8, la16 := la16, lpath := lpath } = .next t'
      ∧ { t' with lop := t.lop, la8 := t.la8, la16 := t.la16, lpath := t.lpath } = t
      ∧ (t.latched = true → t' = t)
      ∧ t'.txData = t.txData ∧ t'.txLast = t.txLast

/-- R36: no state that meets the invariant faults, and a step is refused only for a record the command port cannot
present (log entry 10). -/
def Obligations.ReachableStatesNeverFault : Prop :=
  ∀ (inp : Inputs) (s : State), Invariant s →
    (∃ t, portStep inp s = .next t)
    ∨ (portStep inp s = .refused .notPresentable ∧ s.st = .idle ∧ inp.cmdValid = true
        ∧ inp.cmd.presentable s.params = false)

/-- R66, I4: in EMIT, a byte the sink accepts faults by name where the latches select no layout (log entry 9): latches as
Reset leaves them (log entry 2), an opcode that is none of the five, or a `play` path of more than 254 bytes. No run
reaches such a state (R36). -/
def Obligations.AbsentLatchReadFaults : Prop :=
  ∀ (inp : Inputs) (s : State), inp.rst = false → inp.txErr = false → inp.txReady = true →
    portStep inp { s.clearRegisters with st := .emit } = .fault .noLayout
    ∧ (s.st = .emit →
        (s.lop ∉ [0x04#8, 0x08#8, 0x13#8, 0x18#8, 0x19#8] ∨ (s.lop = 0x08#8 ∧ 254 < s.lpath.length)) →
        portStep inp s = .fault .noLayout)

/-- R160, R10: the state after reset meets the invariant, and its parameters are a choice the spec allows. -/
def Obligations.InvariantHoldsAtReset : Prop :=
  Invariant State.reset ∧ State.reset.params.wellFormed = true

/-- R26, R27, R36, R94: every step, whatever the environment chooses and whatever the parameters are, keeps the
invariant. -/
def Obligations.EveryStepKeepsInvariant : Prop :=
  ∀ s t : State, Invariant s → step s = .next t → Invariant t
end

