-- ==== Sys2Proof/Laws/Datapath.lean ====
section
/-! SUPPORT. What the pure functions of the datapath do: decoding and encoding, the checksum, the frame and the checks. -/

namespace Sys2Proof.Machine

/-! ### Decode and encode -/

@[simp] theorem decode_encode (i : Instr) : decode (encode i) = .instr i := by
  cases i <;> rfl

/-- A decoded record is the encoding of its command: no field is lost. -/
theorem encode_of_decode {r : Record} {i : Instr} (h : decode r = .instr i) : encode i = r := by
  rcases r with ⟨op, a8, a16, path⟩
  simp only [decode] at h
  split_ifs at h with h1 h2 h3 h4 h5 <;> cases h <;> simp_all [encode]

theorem decode_illegal {r : Record} {op : Byte} (h : decode r = .illegalOpcode op) :
    op = r.op ∧ r.op ∉ [opStop, opPlay, opSetVolume, opSetPlayModel, opSetLoopCount] := by
  simp only [decode] at h
  split_ifs at h with h1 h2 h3 h4 h5
  cases h
  simp_all

/-! ### Checksum -/

theorem byteSum_append (xs ys : List Byte) : byteSum (xs ++ ys) = byteSum xs + byteSum ys := by
  induction xs with
  | nil => simp [byteSum]
  | cons x xs ih => simp [byteSum, ih]; omega

theorem byteSum_eq_sum (xs : List Byte) : byteSum xs = (xs.map BitVec.toNat).sum := by
  induction xs with
  | nil => rfl
  | cons x xs ih => simp [byteSum, ih]

@[simp] theorem checksum_nil : checksum [] = 0#8 := rfl

@[simp] theorem checksum_toNat (bs : List Byte) : (checksum bs).toNat = byteSum bs % 256 := by
  simp [checksum]

/-- R94: one more body byte is one step of the running checksum. -/
theorem checksum_snoc (bs : List Byte) (b : Byte) : checksum (bs ++ [b]) = accStep (checksum bs) b := by
  apply BitVec.eq_of_toNat_eq
  simp [checksum, accStep, byteSum_append, byteSum, Nat.add_mod]

/-! ### Frames -/

@[simp] theorem encodePath_length (path : List Byte) : (encodePath path).length = path.length := by
  simp [encodePath]

/-- R66, R91: the body is one byte shorter than `FrameLen`. -/
theorem body_length (i : Instr) : (body i).length + 1 = frameLen i := by
  cases i <;>
    simp [body, payload, payloadStop, payloadPlay, payloadSetVolume, payloadSetPlayModel,
      payloadSetLoopCount, frameLen]
  omega

theorem frame_eq_body (i : Instr) : frame i = body i ++ [checksum (body i)] := by
  simp [frame, buildFrame, body]

theorem frame_length (i : Instr) : (frame i).length = frameLen i := by
  rw [frame_eq_body, List.length_append, ← body_length]; rfl

theorem frameLen_ge (i : Instr) : 4 ≤ frameLen i := by
  cases i <;> simp [frameLen]; omega

/-- R92: within the body the layout mapper gives the body's byte, which is the frame's. -/
theorem frameByte_body {i : Instr} {k : Nat} (acc : Byte) (h : k < frameLen i - 1) :
    frameByte i acc k = (frame i)[k]? := by
  have hb := body_length i
  rw [frameByte, if_pos h, frame_eq_body, List.getElem?_append_left (by omega)]

/-- R92, R94: at the last index it gives the running checksum. -/
theorem frameByte_last {i : Instr} (acc : Byte) :
    frameByte i acc (frameLen i - 1) = some acc := by
  simp [frameByte]

theorem frame_last (i : Instr) : (frame i)[frameLen i - 1]? = some (checksum (body i)) := by
  have hb := body_length i
  rw [frame_eq_body, List.getElem?_append_right (by omega)]
  have : frameLen i - 1 - (body i).length = 0 := by omega
  simp [this]

/-! ### Validation -/

/-- R148, cause by cause of a record that decodes: validation is the check of its command. -/
theorem validate_encode (p : Params) (i : Instr) :
    validate p (encode i) =
      match i with
      | .stop _ _ _ => none
      | .play _ _ path => checkPath p path
      | .setVolume a8 _ _ => checkVolume p a8
      | .setPlayModel a8 _ _ => checkPlayModel a8
      | .setLoopCount _ _ _ => none := by
  cases i <;>
    simp [validate, encode, opStop, opPlay, opSetVolume, opSetPlayModel, opSetLoopCount, checkPath,
      checkVolume, checkPlayModel, playModelBytes, playModelByte]
  case setPlayModel a8 _ _ =>
    by_cases h0 : a8 = 0#8 <;> by_cases h1 : a8 = 1#8 <;> by_cases h2 : a8 = 2#8 <;> simp [h0, h1, h2]

theorem validate_illegal {p : Params} {r : Record} {op : Byte} (h : decode r = .illegalOpcode op) :
    validate p r = some .illegalOpcode := by
  rw [validate, if_pos (decode_illegal h).2]

/-- A record that passes validation decodes, and to a command with a frame of at most `FRAME_MAX` bytes (R9). -/
theorem decode_of_valid {p : Params} {r : Record} (h : validate p r = none) :
    ∃ i, decode r = .instr i ∧ frameLen i ≤ Config.frameMax := by
  cases hd : decode r with
  | illegalOpcode op => rw [validate_illegal hd] at h; cases h
  | instr i =>
    refine ⟨i, rfl, ?_⟩
    rw [← encode_of_decode hd, validate_encode] at h
    cases i with
    | play a8 a16 path =>
      simp only [checkPath] at h
      split_ifs at h with h1
      simp [frameLen, Config.frameMax, Config.pathMax] at *; omega
    | _ => simp [frameLen, Config.frameMax, Config.pathMax]

/-- R25: the latch holds at most 254 bytes, whatever the free value is. -/
theorem latchedPath_length (path : List Byte) : (latchedPath path).length ≤ Config.pathMax := by
  unfold latchedPath
  split_ifs with h
  · exact h
  · simp

theorem latchedPath_of_le {path : List Byte} (h : path.length ≤ Config.pathMax) :
    latchedPath path = path := if_pos h

end Sys2Proof.Machine
end

