-- ==== Sys2Proof/Laws/State.lean ====
section
/-! SUPPORT. What each register update leaves in each field of the state: one lemma per field per update, so that no
later proof unfolds an update. -/

namespace Sys2Proof.Machine

@[simp] theorem State.observe_st (s : State) (o : Obs) : (s.observe o).st = s.st := rfl
@[simp] theorem State.observe_latched (s : State) (o : Obs) : (s.observe o).latched = s.latched := rfl
@[simp] theorem State.observe_lop (s : State) (o : Obs) : (s.observe o).lop = s.lop := rfl
@[simp] theorem State.observe_la8 (s : State) (o : Obs) : (s.observe o).la8 = s.la8 := rfl
@[simp] theorem State.observe_la16 (s : State) (o : Obs) : (s.observe o).la16 = s.la16 := rfl
@[simp] theorem State.observe_lpath (s : State) (o : Obs) : (s.observe o).lpath = s.lpath := rfl
@[simp] theorem State.observe_idx (s : State) (o : Obs) : (s.observe o).idx = s.idx := rfl
@[simp] theorem State.observe_acc (s : State) (o : Obs) : (s.observe o).acc = s.acc := rfl
@[simp] theorem State.observe_rcode (s : State) (o : Obs) : (s.observe o).rcode = s.rcode := rfl
@[simp] theorem State.observe_rinfo (s : State) (o : Obs) : (s.observe o).rinfo = s.rinfo := rfl
@[simp] theorem State.observe_params (s : State) (o : Obs) : (s.observe o).params = s.params := rfl
@[simp] theorem State.observe_obs (s : State) (o : Obs) : (s.observe o).obs = s.obs ++ [o] := rfl
@[simp] theorem State.observe_inputs (s : State) (o : Obs) : (s.observe o).inputs = s.inputs := rfl

@[simp] theorem State.startFrame_st (s : State) (r : Record) : (s.startFrame r).st = .emit := rfl
@[simp] theorem State.startFrame_latched (s : State) (r : Record) : (s.startFrame r).latched = true := rfl
@[simp] theorem State.startFrame_lop (s : State) (r : Record) : (s.startFrame r).lop = r.op := rfl
@[simp] theorem State.startFrame_la8 (s : State) (r : Record) : (s.startFrame r).la8 = r.a8 := rfl
@[simp] theorem State.startFrame_la16 (s : State) (r : Record) : (s.startFrame r).la16 = r.a16 := rfl
@[simp] theorem State.startFrame_lpath (s : State) (r : Record) : (s.startFrame r).lpath = latchedPath r.path := rfl
@[simp] theorem State.startFrame_idx (s : State) (r : Record) : (s.startFrame r).idx = 0#9 := rfl
@[simp] theorem State.startFrame_acc (s : State) (r : Record) : (s.startFrame r).acc = 0#8 := rfl
@[simp] theorem State.startFrame_rcode (s : State) (r : Record) : (s.startFrame r).rcode = s.rcode := rfl
@[simp] theorem State.startFrame_rinfo (s : State) (r : Record) : (s.startFrame r).rinfo = s.rinfo := rfl
@[simp] theorem State.startFrame_params (s : State) (r : Record) : (s.startFrame r).params = s.params := rfl
@[simp] theorem State.startFrame_obs (s : State) (r : Record) : (s.startFrame r).obs = s.obs := rfl
@[simp] theorem State.startFrame_inputs (s : State) (r : Record) : (s.startFrame r).inputs = s.inputs := rfl

@[simp] theorem State.enterResp_st (s : State) (c : Code4) (n : Count9) : (s.enterResp c n).st = .resp := rfl
@[simp] theorem State.enterResp_latched (s : State) (c : Code4) (n : Count9) : (s.enterResp c n).latched = s.latched := rfl
@[simp] theorem State.enterResp_lop (s : State) (c : Code4) (n : Count9) : (s.enterResp c n).lop = s.lop := rfl
@[simp] theorem State.enterResp_la8 (s : State) (c : Code4) (n : Count9) : (s.enterResp c n).la8 = s.la8 := rfl
@[simp] theorem State.enterResp_la16 (s : State) (c : Code4) (n : Count9) : (s.enterResp c n).la16 = s.la16 := rfl
@[simp] theorem State.enterResp_lpath (s : State) (c : Code4) (n : Count9) : (s.enterResp c n).lpath = s.lpath := rfl
@[simp] theorem State.enterResp_idx (s : State) (c : Code4) (n : Count9) : (s.enterResp c n).idx = s.idx := rfl
@[simp] theorem State.enterResp_acc (s : State) (c : Code4) (n : Count9) : (s.enterResp c n).acc = s.acc := rfl
@[simp] theorem State.enterResp_rcode (s : State) (c : Code4) (n : Count9) : (s.enterResp c n).rcode = c := rfl
@[simp] theorem State.enterResp_rinfo (s : State) (c : Code4) (n : Count9) : (s.enterResp c n).rinfo = n := rfl
@[simp] theorem State.enterResp_params (s : State) (c : Code4) (n : Count9) : (s.enterResp c n).params = s.params := rfl
@[simp] theorem State.enterResp_obs (s : State) (c : Code4) (n : Count9) : (s.enterResp c n).obs = s.obs := rfl
@[simp] theorem State.enterResp_inputs (s : State) (c : Code4) (n : Count9) : (s.enterResp c n).inputs = s.inputs := rfl

@[simp] theorem State.endFrame_st (s : State) (c : Code4) (n : Count9) : (s.endFrame c n).st = .resp := rfl
@[simp] theorem State.endFrame_latched (s : State) (c : Code4) (n : Count9) : (s.endFrame c n).latched = s.latched := rfl
@[simp] theorem State.endFrame_lop (s : State) (c : Code4) (n : Count9) : (s.endFrame c n).lop = s.lop := rfl
@[simp] theorem State.endFrame_la8 (s : State) (c : Code4) (n : Count9) : (s.endFrame c n).la8 = s.la8 := rfl
@[simp] theorem State.endFrame_la16 (s : State) (c : Code4) (n : Count9) : (s.endFrame c n).la16 = s.la16 := rfl
@[simp] theorem State.endFrame_lpath (s : State) (c : Code4) (n : Count9) : (s.endFrame c n).lpath = s.lpath := rfl
@[simp] theorem State.endFrame_idx (s : State) (c : Code4) (n : Count9) : (s.endFrame c n).idx = 0#9 := rfl
@[simp] theorem State.endFrame_acc (s : State) (c : Code4) (n : Count9) : (s.endFrame c n).acc = 0#8 := rfl
@[simp] theorem State.endFrame_rcode (s : State) (c : Code4) (n : Count9) : (s.endFrame c n).rcode = c := rfl
@[simp] theorem State.endFrame_rinfo (s : State) (c : Code4) (n : Count9) : (s.endFrame c n).rinfo = n := rfl
@[simp] theorem State.endFrame_params (s : State) (c : Code4) (n : Count9) : (s.endFrame c n).params = s.params := rfl
@[simp] theorem State.endFrame_obs (s : State) (c : Code4) (n : Count9) : (s.endFrame c n).obs = s.obs := rfl
@[simp] theorem State.endFrame_inputs (s : State) (c : Code4) (n : Count9) : (s.endFrame c n).inputs = s.inputs := rfl

@[simp] theorem State.encodingError_st (s : State) (c : Cause) : (s.encodingError c).st = .resp := rfl
@[simp] theorem State.encodingError_latched (s : State) (c : Cause) : (s.encodingError c).latched = s.latched := rfl
@[simp] theorem State.encodingError_lop (s : State) (c : Cause) : (s.encodingError c).lop = s.lop := rfl
@[simp] theorem State.encodingError_la8 (s : State) (c : Cause) : (s.encodingError c).la8 = s.la8 := rfl
@[simp] theorem State.encodingError_la16 (s : State) (c : Cause) : (s.encodingError c).la16 = s.la16 := rfl
@[simp] theorem State.encodingError_lpath (s : State) (c : Cause) : (s.encodingError c).lpath = s.lpath := rfl
@[simp] theorem State.encodingError_idx (s : State) (c : Cause) : (s.encodingError c).idx = s.idx := rfl
@[simp] theorem State.encodingError_acc (s : State) (c : Cause) : (s.encodingError c).acc = s.acc := rfl
@[simp] theorem State.encodingError_rcode (s : State) (c : Cause) : (s.encodingError c).rcode = causeCode c := rfl
@[simp] theorem State.encodingError_rinfo (s : State) (c : Cause) : (s.encodingError c).rinfo = 0#9 := rfl
@[simp] theorem State.encodingError_params (s : State) (c : Cause) : (s.encodingError c).params = s.params := rfl
@[simp] theorem State.encodingError_obs (s : State) (c : Cause) : (s.encodingError c).obs = s.obs := rfl
@[simp] theorem State.encodingError_inputs (s : State) (c : Cause) : (s.encodingError c).inputs = s.inputs := rfl

@[simp] theorem State.transportError_st (s : State) : s.transportError.st = .resp := rfl
@[simp] theorem State.transportError_latched (s : State) : s.transportError.latched = s.latched := rfl
@[simp] theorem State.transportError_lop (s : State) : s.transportError.lop = s.lop := rfl
@[simp] theorem State.transportError_la8 (s : State) : s.transportError.la8 = s.la8 := rfl
@[simp] theorem State.transportError_la16 (s : State) : s.transportError.la16 = s.la16 := rfl
@[simp] theorem State.transportError_lpath (s : State) : s.transportError.lpath = s.lpath := rfl
@[simp] theorem State.transportError_idx (s : State) : s.transportError.idx = 0#9 := rfl
@[simp] theorem State.transportError_acc (s : State) : s.transportError.acc = 0#8 := rfl
@[simp] theorem State.transportError_rcode (s : State) : s.transportError.rcode = codeTransportError := rfl
@[simp] theorem State.transportError_rinfo (s : State) : s.transportError.rinfo = s.idx := rfl
@[simp] theorem State.transportError_params (s : State) : s.transportError.params = s.params := rfl
@[simp] theorem State.transportError_obs (s : State) : s.transportError.obs = s.obs := rfl
@[simp] theorem State.transportError_inputs (s : State) : s.transportError.inputs = s.inputs := rfl

@[simp] theorem State.backToIdle_st (s : State) : s.backToIdle.st = .idle := rfl
@[simp] theorem State.backToIdle_latched (s : State) : s.backToIdle.latched = s.latched := rfl
@[simp] theorem State.backToIdle_lop (s : State) : s.backToIdle.lop = s.lop := rfl
@[simp] theorem State.backToIdle_la8 (s : State) : s.backToIdle.la8 = s.la8 := rfl
@[simp] theorem State.backToIdle_la16 (s : State) : s.backToIdle.la16 = s.la16 := rfl
@[simp] theorem State.backToIdle_lpath (s : State) : s.backToIdle.lpath = s.lpath := rfl
@[simp] theorem State.backToIdle_idx (s : State) : s.backToIdle.idx = s.idx := rfl
@[simp] theorem State.backToIdle_acc (s : State) : s.backToIdle.acc = s.acc := rfl
@[simp] theorem State.backToIdle_rcode (s : State) : s.backToIdle.rcode = s.rcode := rfl
@[simp] theorem State.backToIdle_rinfo (s : State) : s.backToIdle.rinfo = s.rinfo := rfl
@[simp] theorem State.backToIdle_params (s : State) : s.backToIdle.params = s.params := rfl
@[simp] theorem State.backToIdle_obs (s : State) : s.backToIdle.obs = s.obs := rfl
@[simp] theorem State.backToIdle_inputs (s : State) : s.backToIdle.inputs = s.inputs := rfl

@[simp] theorem State.clearRegisters_st (s : State) : s.clearRegisters.st = .idle := rfl
@[simp] theorem State.clearRegisters_latched (s : State) : s.clearRegisters.latched = false := rfl
@[simp] theorem State.clearRegisters_lop (s : State) : s.clearRegisters.lop = 0#8 := rfl
@[simp] theorem State.clearRegisters_la8 (s : State) : s.clearRegisters.la8 = 0#8 := rfl
@[simp] theorem State.clearRegisters_la16 (s : State) : s.clearRegisters.la16 = 0#16 := rfl
@[simp] theorem State.clearRegisters_lpath (s : State) : s.clearRegisters.lpath = [] := rfl
@[simp] theorem State.clearRegisters_idx (s : State) : s.clearRegisters.idx = 0#9 := rfl
@[simp] theorem State.clearRegisters_acc (s : State) : s.clearRegisters.acc = 0#8 := rfl
@[simp] theorem State.clearRegisters_rcode (s : State) : s.clearRegisters.rcode = 0#4 := rfl
@[simp] theorem State.clearRegisters_rinfo (s : State) : s.clearRegisters.rinfo = 0#9 := rfl
@[simp] theorem State.clearRegisters_params (s : State) : s.clearRegisters.params = s.params := rfl
@[simp] theorem State.clearRegisters_obs (s : State) : s.clearRegisters.obs = s.obs := rfl
@[simp] theorem State.clearRegisters_inputs (s : State) : s.clearRegisters.inputs = s.inputs := rfl

@[simp] theorem State.popInputs_st (s : State) : s.popInputs.st = s.st := rfl
@[simp] theorem State.popInputs_latched (s : State) : s.popInputs.latched = s.latched := rfl
@[simp] theorem State.popInputs_lop (s : State) : s.popInputs.lop = s.lop := rfl
@[simp] theorem State.popInputs_la8 (s : State) : s.popInputs.la8 = s.la8 := rfl
@[simp] theorem State.popInputs_la16 (s : State) : s.popInputs.la16 = s.la16 := rfl
@[simp] theorem State.popInputs_lpath (s : State) : s.popInputs.lpath = s.lpath := rfl
@[simp] theorem State.popInputs_idx (s : State) : s.popInputs.idx = s.idx := rfl
@[simp] theorem State.popInputs_acc (s : State) : s.popInputs.acc = s.acc := rfl
@[simp] theorem State.popInputs_rcode (s : State) : s.popInputs.rcode = s.rcode := rfl
@[simp] theorem State.popInputs_rinfo (s : State) : s.popInputs.rinfo = s.rinfo := rfl
@[simp] theorem State.popInputs_params (s : State) : s.popInputs.params = s.params := rfl
@[simp] theorem State.popInputs_obs (s : State) : s.popInputs.obs = s.obs := rfl
@[simp] theorem State.popInputs_inputs (s : State) : s.popInputs.inputs = s.inputs.tail := rfl

end Sys2Proof.Machine
end

