-- ==== Sys2Proof/Laws/Ops.lean ====
section
/-! SUPPORT. For each shared operation, one lemma that says once everything it can do; a proof about a step cites
these and does not unfold the operation. -/

namespace Sys2Proof.Machine

/-- R121, R123: in IDLE an acceptance starts the frame or takes the error; elsewhere it does nothing. -/
theorem accept_cases (cause : Option Cause) (r : Record) (s : State) :
    (s.st = .idle ∧ cause = none ∧ s.accept cause r = (s.observe (.accepted r)).startFrame r)
    ∨ (∃ c, s.st = .idle ∧ cause = some c ∧
        s.accept cause r = (s.observe (.accepted r)).encodingError c)
    ∨ (s.st ≠ .idle ∧ s.accept cause r = s) := by
  unfold State.accept
  cases hst : s.st <;> cases cause <;> simp

/-- R123, R148: the meaning of every command is `Accept` with the result of validating its record. -/
theorem exec_eq_accept (i : Instr) (s : State) :
    exec i s = .next (s.accept (validate s.params (encode i)) (encode i)) := by
  rw [validate_encode]; cases i <;> rfl

/-- R123: a record the port can present is accepted, whatever its opcode, with the result of its validation. -/
theorem acceptRecord_presentable {r : Record} {s : State} (h : r.presentable s.params = true) :
    acceptRecord r s = .next (s.accept (validate s.params r) r) := by
  rw [acceptRecord, if_pos h]
  cases hd : decode r with
  | instr i => simp only [exec_eq_accept, encode_of_decode hd]
  | illegalOpcode op => simp only [acceptIllegal, validate_illegal hd]

theorem acceptRecord_cases {r : Record} {s t : State} (h : acceptRecord r s = .next t) :
    r.presentable s.params = true ∧ t = s.accept (validate s.params r) r := by
  by_cases hp : r.presentable s.params = true
  · rw [acceptRecord_presentable hp] at h; cases h; exact ⟨hp, rfl⟩
  · rw [acceptRecord, if_neg hp] at h; cases h

/-- The latches read as the command they decode to, where it has a layout. -/
theorem latchedInstr_ok {s : State} {i : Instr} :
    s.latchedInstr = .ok i ↔ decode s.latchedRecord = .instr i ∧ frameLen i ≤ Config.frameMax := by
  unfold State.latchedInstr
  cases decode s.latchedRecord <;> simp
  split_ifs with h <;> simp
  · rintro rfl; exact h
  · rintro rfl; exact Nat.lt_of_not_le h

/-- The latches select no layout exactly where their opcode is none of the five or their `play` path is too long. -/
theorem latchedInstr_noLayout {s : State} :
    s.latchedInstr = .error .noLayout ↔
      ∀ i, decode s.latchedRecord = .instr i → Config.frameMax < frameLen i := by
  unfold State.latchedInstr
  cases decode s.latchedRecord <;> simp

/-- R124: what an acceptance of the sink can do where it is enabled. -/
theorem sinkAccept_cases {s t : State} (h : sinkAccept s = .next t) :
    (s.st ≠ .emit ∧ t = s)
    ∨ ∃ i b, s.st = .emit ∧ s.latchedInstr = .ok i ∧ frameByte i s.acc s.idx.toNat = some b ∧
        t = s.afterByte (frameLen i) b := by
  unfold sinkAccept at h
  cases hst : s.st with
  | idle => rw [hst] at h; cases h; exact .inl ⟨by simp, rfl⟩
  | resp => rw [hst] at h; cases h; exact .inl ⟨by simp, rfl⟩
  | emit =>
    rw [hst] at h
    cases hi : s.latchedInstr with
    | error f => simp [hi] at h
    | ok i =>
      cases hb : frameByte i s.acc s.idx.toNat with
      | none => simp [hi, hb] at h
      | some b =>
        simp only [hi, hb, Host.Outcome.next.injEq] at h
        exact .inr ⟨i, b, rfl, rfl, hb, h.symm⟩

/-- The same, read forwards. -/
theorem sinkAccept_emit {s : State} {i : Instr} {b : Byte} (hst : s.st = .emit)
    (hi : s.latchedInstr = .ok i) (hb : frameByte i s.acc s.idx.toNat = some b) :
    sinkAccept s = .next (s.afterByte (frameLen i) b) := by
  simp [sinkAccept, hst, hi, hb]

theorem afterByte_body {s : State} {n : Nat} (b : Byte) (h : s.idx.toNat < n - 1) :
    s.afterByte n b = { s.observe (.emit b) with acc := accStep s.acc b, idx := s.idx + 1#9 } :=
  if_pos h

theorem afterByte_last {s : State} {n : Nat} (b : Byte) (h : ¬ s.idx.toNat < n - 1) :
    s.afterByte n b = (s.observe (.emit b)).endFrame codeOk (BitVec.ofNat 9 n) :=
  if_neg h

/-- R149: when each event is chosen. -/
theorem selectEvent_cases (inp : Inputs) (st : SeqState) :
    (inp.rst = true ∧ selectEvent inp st = .reset)
    ∨ (inp.rst = false ∧ st = .idle ∧ inp.cmdValid = true ∧ selectEvent inp st = .accept inp.cmd)
    ∨ (inp.rst = false ∧ st = .emit ∧ inp.txErr = true ∧ selectEvent inp st = .sinkFail)
    ∨ (inp.rst = false ∧ st = .emit ∧ inp.txErr = false ∧ inp.txReady = true
        ∧ selectEvent inp st = .sinkAccept)
    ∨ (inp.rst = false ∧ st = .resp ∧ inp.rspReady = true ∧ selectEvent inp st = .take)
    ∨ (inp.rst = false ∧ (st = .idle → inp.cmdValid = false)
        ∧ (st = .emit → inp.txErr = false ∧ inp.txReady = false)
        ∧ (st = .resp → inp.rspReady = false) ∧ selectEvent inp st = .idle) := by
  rcases inp with ⟨rst, v, r, rd, er, rr⟩
  cases st <;> cases rst <;> cases v <;> cases rd <;> cases er <;> cases rr <;>
    simp [selectEvent]

/-- R121: everything a step can do under given port values, by the event it takes. -/
theorem portStep_cases {inp : Inputs} {s t : State} (h : portStep inp s = .next t) :
    (inp.rst = true ∧ t = s.clearRegisters.observe .reset)
    ∨ (inp.rst = false ∧ s.st = .idle ∧ inp.cmdValid = true
        ∧ inp.cmd.presentable s.params = true
        ∧ t = s.accept (validate s.params inp.cmd) inp.cmd)
    ∨ (inp.rst = false ∧ s.st = .emit ∧ inp.txErr = true ∧ t = s.transportError)
    ∨ (∃ i b, inp.rst = false ∧ s.st = .emit ∧ inp.txErr = false ∧ inp.txReady = true
        ∧ s.latchedInstr = .ok i ∧ frameByte i s.acc s.idx.toNat = some b
        ∧ t = s.afterByte (frameLen i) b)
    ∨ (inp.rst = false ∧ s.st = .resp ∧ inp.rspReady = true
        ∧ t = (s.observe (.response s.rcode s.rinfo)).backToIdle)
    ∨ (inp.rst = false ∧ (s.st = .idle → inp.cmdValid = false)
        ∧ (s.st = .emit → inp.txErr = false ∧ inp.txReady = false)
        ∧ (s.st = .resp → inp.rspReady = false) ∧ t = s) := by
  unfold portStep at h
  rcases selectEvent_cases inp s.st with
    ⟨h0, he⟩ | ⟨h0, h1, h2, he⟩ | ⟨h0, h1, h2, he⟩ | ⟨h0, h1, h2, h3, he⟩ | ⟨h0, h1, h2, he⟩ |
    ⟨h0, h1, h2, h3, he⟩ <;> rw [he] at h
  · cases h; exact .inl ⟨h0, rfl⟩
  · obtain ⟨hp, ht⟩ := acceptRecord_cases h
    exact .inr (.inl ⟨h0, h1, h2, hp, ht⟩)
  · simp only [fire, sinkFail, h1, Host.Outcome.next.injEq] at h
    exact .inr (.inr (.inl ⟨h0, h1, h2, h.symm⟩))
  · rcases sinkAccept_cases h with ⟨hn, _⟩ | ⟨i, b, _, h5, h6, h7⟩
    · exact absurd h1 hn
    · exact .inr (.inr (.inr (.inl ⟨i, b, h0, h1, h2, h3, h5, h6, h7⟩)))
  · simp only [fire, take, h1, Host.Outcome.next.injEq] at h
    exact .inr (.inr (.inr (.inr (.inl ⟨h0, h1, h2, h.symm⟩))))
  · cases h; exact .inr (.inr (.inr (.inr (.inr ⟨h0, h1, h2, h3, rfl⟩))))

/-- A step is the step of the next scheduled port values, on the state that has consumed them. -/
theorem step_eq_portStep (s : State) : step s = portStep s.ports s.popInputs := rfl

end Sys2Proof.Machine
end

