-- ==== Sys2Proof/Laws/PerInstr.lean ====
section
/-! SUPPORT. Facts about every command, one lemma per constructor of Instr. -/

/-- The command's encoding decodes to it (R61), and its frame is 4 to 259 bytes long where its path is accepted
(R9, R72). -/
def Sys2Proof.Laws.EncodeDecode.Statement (i : Sys2Proof.Instr) : Prop :=
  Sys2Proof.decode (Sys2Proof.encode i) = .instr i
  ∧ 4 ≤ Sys2Proof.Machine.frameLen i
  ∧ ((Sys2Proof.encode i).path.length ≤ Sys2Proof.Config.pathMax →
      Sys2Proof.Machine.frameLen i ≤ Sys2Proof.Config.frameMax)

theorem Sys2Proof.Laws.EncodeDecode.stop (a8 : Sys2Proof.Byte) (a16 : Sys2Proof.Half)
    (path : List Sys2Proof.Byte) : Sys2Proof.Laws.EncodeDecode.Statement (.stop a8 a16 path) :=
  ⟨rfl, Sys2Proof.Machine.frameLen_ge _, fun _ => by
    simp [Sys2Proof.Config.pathMax, Sys2Proof.Config.frameMax, Sys2Proof.Machine.frameLen]⟩

theorem Sys2Proof.Laws.EncodeDecode.play (a8 : Sys2Proof.Byte) (a16 : Sys2Proof.Half)
    (path : List Sys2Proof.Byte) : Sys2Proof.Laws.EncodeDecode.Statement (.play a8 a16 path) :=
  ⟨rfl, Sys2Proof.Machine.frameLen_ge _, fun h => by
    simp only [Sys2Proof.encode, Sys2Proof.Config.pathMax, Sys2Proof.Config.frameMax,
      Sys2Proof.Machine.frameLen] at *
    omega⟩

theorem Sys2Proof.Laws.EncodeDecode.setVolume (a8 : Sys2Proof.Byte) (a16 : Sys2Proof.Half)
    (path : List Sys2Proof.Byte) : Sys2Proof.Laws.EncodeDecode.Statement (.setVolume a8 a16 path) :=
  ⟨rfl, Sys2Proof.Machine.frameLen_ge _, fun _ => by
    simp [Sys2Proof.Config.pathMax, Sys2Proof.Config.frameMax, Sys2Proof.Machine.frameLen]⟩

theorem Sys2Proof.Laws.EncodeDecode.setPlayModel (a8 : Sys2Proof.Byte) (a16 : Sys2Proof.Half)
    (path : List Sys2Proof.Byte) : Sys2Proof.Laws.EncodeDecode.Statement (.setPlayModel a8 a16 path) :=
  ⟨rfl, Sys2Proof.Machine.frameLen_ge _, fun _ => by
    simp [Sys2Proof.Config.pathMax, Sys2Proof.Config.frameMax, Sys2Proof.Machine.frameLen]⟩

theorem Sys2Proof.Laws.EncodeDecode.setLoopCount (a8 : Sys2Proof.Byte) (a16 : Sys2Proof.Half)
    (path : List Sys2Proof.Byte) : Sys2Proof.Laws.EncodeDecode.Statement (.setLoopCount a8 a16 path) :=
  ⟨rfl, Sys2Proof.Machine.frameLen_ge _, fun _ => by
    simp [Sys2Proof.Config.pathMax, Sys2Proof.Config.frameMax, Sys2Proof.Machine.frameLen]⟩
end

