-- ==== Sys2Proof/Tests/Slice0.lean ====
section
/-! SUPPORT. Tests of the model. The expected values are the spec's own: the words of 30_encoding.md R61, the vectors
of 95_test_vectors.md by their ids. Then a witness for each statement that has hypotheses, at boundary values. -/

namespace Sys2Proof.Tests

open Sys2Proof Sys2Proof.Machine

/-! ### Well-formedness refuses what is ill formed -/

/-- Parameters that are well formed, with a short charset and the volume check on (V1 to V6, program C). -/
def strictParams : Params := ⟨[0x2A#8, 0x2E#8, 0x41#8, 0x61#8], true, 30#8, 255⟩

theorem test_wellFormed_default : Params.default.wellFormed = true := by decide
theorem test_wellFormed_strict : strictParams.wellFormed = true := by decide
theorem test_charset_not_ascii :
    (⟨[0x2A#8, 0x2E#8, 0x80#8], false, 30#8, 255⟩ : Params).charsetAscii = false := by decide
theorem test_charset_no_dot : (⟨[0x41#8], false, 30#8, 255⟩ : Params).charsetHasDot = false := by decide
theorem test_charset_not_closed :
    (⟨[0x2A#8, 0x2E#8, 0x61#8], false, 30#8, 255⟩ : Params).charsetClosed = false := by decide
theorem test_port_too_narrow : (⟨[0x2A#8, 0x2E#8], false, 30#8, 254⟩ : Params).portWideEnough = false := by
  decide
theorem test_params_ill_formed : (⟨[0x41#8], false, 30#8, 255⟩ : Params).wellFormed = false := by decide
theorem test_record_not_presentable :
    Record.presentable strictParams ⟨0x08#8, 0#8, 0#16, List.replicate 256 0x41#8⟩ = false := by decide +kernel
theorem test_instr_ill_formed :
    (Instr.play 0#8 0#16 (List.replicate 256 0x41#8)).wellFormed strictParams = false := by decide +kernel

/-! ### Decoding: words written out from R61 and from the record layout of log entry 6 -/

theorem test_decode_stop : decodeTableWord 8 0b00000100 = some (.stop 0#8 0#16 []) := by decide
theorem test_decode_play :
    decodeTableWord 48 0b01100010_00101110_0000000000000000_00000000_00001000
      = some (.play 0#8 0#16 [0x2E#8, 0x62#8]) := by decide
theorem test_decode_setVolume :
    decodeTableWord 16 0b00010100_00010011 = some (.setVolume 20#8 0#16 []) := by decide
theorem test_decode_setPlayModel :
    decodeTableWord 16 0b00000001_00011000 = some (.setPlayModel 1#8 0#16 []) := by decide
theorem test_decode_setLoopCount :
    decodeTableWord 32 0b0000000100101100_00000000_00011001 = some (.setLoopCount 0#8 300#16 []) := by
  decide
theorem test_decode_illegal : decode ⟨0x09#8, 0#8, 0#16, [0#8]⟩ = .illegalOpcode 0x09#8 := by decide
/-- R61, R62: five opcodes are legal, the other 251 are not. -/
theorem test_illegal_count :
    ((List.range 256).filter fun n =>
      decide (decode ⟨BitVec.ofNat 8 n, 0#8, 0#16, []⟩ = .illegalOpcode (BitVec.ofNat 8 n))).length = 251 := by
  decide +kernel

/-! ### Datapath vectors -/

/-- CK6, CK7. -/
theorem test_checksum : checksum [0xFF#8, 0xFF#8, 0xFF#8] = 0xFD#8 ∧ checksum [0xAA#8, 0x04#8, 0x00#8] = 0xAE#8 := by
  decide
/-- BF4, an internal call that no command makes. -/
theorem test_buildFrame : buildFrame 0x56#8 [] = [0xAA#8, 0x56#8, 0x00#8] := by decide
/-- PE3, PE4, PE5, PE6. -/
theorem test_encodePath :
    encodePath [0x7A#8, 0x60#8, 0x7B#8, 0x41#8, 0x2E#8, 0x62#8]
      = [0x5A#8, 0x60#8, 0x7B#8, 0x41#8, 0x2A#8, 0x42#8] := by decide
/-- R70 and R21: the bytes of the enumerations and of the sequencer states. -/
theorem test_enumerations :
    [diskSourceByte .usb, diskSourceByte .sd, diskSourceByte .flash, diskSourceByte .none]
        = [0x00#8, 0x01#8, 0x02#8, 0xFF#8]
    ∧ [playStateByte .stop, playStateByte .start, playStateByte .pause] = [0x00#8, 0x01#8, 0x02#8]
    ∧ [seqCode .idle, seqCode .emit, seqCode .resp] = [0b00#2, 0b01#2, 0b10#2] := by decide
/-- S-2: the ignored fields of `stop` have no effect. -/
theorem test_frame_stop : frame (.stop 0xFF#8 0x1234#16 [0x00#8]) = [0xAA#8, 0x04#8, 0x00#8, 0xAE#8] := by decide
/-- S3, P3. -/
theorem test_frame_play :
    frame (.play 0#8 0#16
        [0x2F#8, 0x30#8, 0x30#8, 0x30#8, 0x30#8, 0x31#8, 0x2E#8, 0x6D#8, 0x70#8, 0x33#8])
      = [0xAA#8, 0x08#8, 0x0B#8, 0x02#8, 0x2F#8, 0x30#8, 0x30#8, 0x30#8, 0x30#8, 0x31#8, 0x2A#8, 0x4D#8,
        0x50#8, 0x33#8, 0xD9#8] := by decide
/-- S2 as corrected by C1, and V6. -/
theorem test_frame_setVolume :
    frame (.setVolume 20#8 0#16 []) = [0xAA#8, 0x13#8, 0x01#8, 0x14#8, 0xD2#8]
    ∧ frame (.setVolume 0xFF#8 0#16 []) = [0xAA#8, 0x13#8, 0x01#8, 0xFF#8, 0xBD#8] := by decide
/-- S4. -/
theorem test_frame_setPlayModel :
    frame (.setPlayModel 1#8 0#16 []) = [0xAA#8, 0x18#8, 0x01#8, 0x01#8, 0xC4#8] := by decide
/-- S5, LC3, LC7. -/
theorem test_frame_setLoopCount :
    frame (.setLoopCount 0#8 300#16 []) = [0xAA#8, 0x19#8, 0x02#8, 0x01#8, 0x2C#8, 0xF2#8]
    ∧ frame (.setLoopCount 0#8 255#16 []) = [0xAA#8, 0x19#8, 0x02#8, 0x00#8, 0xFF#8, 0xC4#8]
    ∧ frame (.setLoopCount 0#8 0x8000#16 []) = [0xAA#8, 0x19#8, 0x02#8, 0x80#8, 0x00#8, 0x45#8] := by decide
/-- P12, P13, V3, V4, M4, E6: which cause validation reports. -/
theorem test_validate :
    validate Params.default ⟨0x08#8, 0#8, 0#16, List.replicate 254 0x61#8 ++ [0x7F#8]⟩ = some .pathLength
    ∧ validate Params.default ⟨0x08#8, 0#8, 0#16, [0x61#8, 0x62#8, 0x7F#8]⟩ = some .pathCharset
    ∧ validate strictParams ⟨0x13#8, 30#8, 0#16, []⟩ = none
    ∧ validate strictParams ⟨0x13#8, 31#8, 0#16, []⟩ = some .volumeRange
    ∧ validate Params.default ⟨0x18#8, 3#8, 0#16, []⟩ = some .playModel
    ∧ validate Params.default ⟨0x09#8, 0#8, 0#16, [0#8]⟩ = some .illegalOpcode := by decide +kernel

/-! ### Text (R73) -/

theorem test_parse_play :
    parseLine "play \"ok\\x07\\\"\\\\;\" ; a comment".toList
      = some (.command ⟨0x08#8, 0#8, 0#16, [0x6F#8, 0x6B#8, 0x07#8, 0x22#8, 0x5C#8, 0x3B#8]⟩) := by decide
/-- S-2. -/
theorem test_parse_cmd :
    parseLine ".cmd op=0x04 a8=0xFF a16=0x1234 path=\"\\x00\"".toList
      = some (.command ⟨0x04#8, 0xFF#8, 0x1234#16, [0x00#8]⟩) := by decide
theorem test_parse_program :
    parseProgram ["setLoopCount 300".toList, "  ; nothing".toList, "setVolume 20".toList, ".cmd op=0x02".toList]
      = some [⟨0x19#8, 0#8, 300#16, []⟩, ⟨0x13#8, 20#8, 0#16, []⟩, ⟨0x02#8, 0#8, 0#16, []⟩] := by decide
theorem test_parse_refuses :
    parseLine "setVolume 256".toList = none ∧ parseLine "setLoopCount 0x2C".toList = none
    ∧ parseLine "play ab".toList = none ∧ parseLine "pause".toList = none := by decide

/-! ### Steps: the trace of 95_test_vectors.md section 2.10 -/

/-- `stop` being emitted, at index `k` with the running checksum `acc`. -/
def emitting (k : Count9) (acc : Byte) : State :=
  { State.reset with
    st := .emit, latched := true, lop := 0x04#8, idx := k, acc := acc,
    obs := [.reset, .accepted ⟨0x04#8, 0#8, 0#16, []⟩] }

/-- A success of four bytes offered to the host. -/
def responding : State := { State.reset with st := .resp, rinfo := 4#9 }

/-- Ports on which the sink accepts. -/
def ready : Inputs := { Inputs.quiet with txReady := true }
/-- Ports on which the sink asserts both answers (Q3). -/
def failing : Inputs := { Inputs.quiet with txReady := true, txErr := true }
/-- Ports on which the host takes the response. -/
def taking : Inputs := { Inputs.quiet with rspReady := true }
/-- Ports on which everything is asserted with reset. -/
def resetting : Inputs := ⟨true, true, ⟨0x04#8, 0#8, 0#16, []⟩, true, true, true⟩
/-- The record of `stop`. -/
def stopRecord : Record := ⟨0x04#8, 0#8, 0#16, []⟩

/-- Step 1, from reset, of the placed word. -/
theorem test_step_accept :
    step (State.reset.withFetchWord 8 0x04) = .next { emitting 0#9 0#8 with inputs := [] } := rfl
/-- Steps 2 and 4. -/
theorem test_step_body :
    portStep ready (emitting 0#9 0x00#8)
      = .next { emitting 1#9 0xAA#8 with obs := (emitting 0#9 0#8).obs ++ [.emit 0xAA#8] }
    ∧ portStep ready (emitting 2#9 0xAE#8)
      = .next { emitting 3#9 0xAE#8 with obs := (emitting 0#9 0#8).obs ++ [.emit 0x00#8] } := ⟨rfl, rfl⟩
/-- Step 5. -/
theorem test_step_last :
    portStep ready (emitting 3#9 0xAE#8)
      = .next { emitting 0#9 0x00#8 with
          st := .resp, rinfo := 4#9, obs := (emitting 0#9 0#8).obs ++ [.emit 0xAE#8] } := rfl
/-- Q3: both answers at index 2 are a failure. -/
theorem test_step_fail :
    portStep failing (emitting 2#9 0xAE#8)
      = .next { emitting 0#9 0x00#8 with st := .resp, rcode := 0x8#4, rinfo := 2#9 } := rfl
/-- Step 6. -/
theorem test_step_take :
    portStep taking responding
      = .next { State.reset with rinfo := 4#9, obs := [.reset, .response 0x0#4 4#9] } := rfl
/-- Program D: reset in the middle of a frame. -/
theorem test_step_reset :
    portStep resetting (emitting 2#9 0xAE#8)
      = .next { State.reset with obs := (emitting 2#9 0#8).obs ++ [.reset] } := rfl
/-- R39: the outputs before step 2 and before step 5. -/
theorem test_outputs :
    (emitting 0#9 0#8).txData = some 0xAA#8 ∧ (emitting 0#9 0#8).txLast = false
    ∧ (emitting 3#9 0xAE#8).txData = some 0xAE#8 ∧ (emitting 3#9 0xAE#8).txLast = true
    ∧ State.reset.txData = none ∧ State.reset.rspCode = none ∧ responding.rspInfo = some 4#9 := by decide

/-! ### Witnesses: states and operands that meet the statements' hypotheses -/

theorem invariant_responding : Invariant responding := by
  constructor <;> simp [responding, State.reset, producedCodes, codeOk, codeTransportError]

theorem invariant_emitting_first : Invariant (emitting 0#9 0x00#8) := by
  refine ⟨by decide, by decide, by decide, by decide, ?_, by decide, by decide⟩
  rintro - i h
  cases h
  decide

theorem invariant_emitting_last : Invariant (emitting 3#9 0xAE#8) := by
  refine ⟨by decide, by decide, by decide, by decide, ?_, by decide, by decide⟩
  rintro - i h
  cases h
  decide

theorem witness_IllegalOpcodeRejected :
    (Inputs.offer ⟨0x12#8, 0#8, 0#16, []⟩).cmd.op ∉ [0x04#8, 0x08#8, 0x13#8, 0x18#8, 0x19#8]
    ∧ State.reset.st = .idle ∧ (Inputs.offer ⟨0x12#8, 0#8, 0#16, []⟩).rst = false
    ∧ (Inputs.offer ⟨0x12#8, 0#8, 0#16, []⟩).cmdValid = true
    ∧ (Inputs.offer ⟨0x12#8, 0#8, 0#16, []⟩).cmd.presentable State.reset.params = true := by decide

/-- Two `stop` records that differ in every field, and two `setVolume` ones that agree in `a8`. -/
theorem witness_UnlistedFieldsIgnored :
    (∃ r r' : Record, r.op = 0x04#8 ∧ r.op = r'.op ∧ r.a8 ≠ r'.a8 ∧ r.a16 ≠ r'.a16 ∧ r.path ≠ r'.path)
    ∧ ∃ r r' : Record, r.op = 0x13#8 ∧ r.op = r'.op ∧ (r.op = 0x18#8 ∨ r.op = 0x13#8 → r.a8 = r'.a8)
      ∧ r.a16 ≠ r'.a16 ∧ r.path ≠ r'.path :=
  ⟨⟨⟨0x04#8, 0#8, 0#16, []⟩, ⟨0x04#8, 1#8, 1#16, [0#8]⟩, by decide⟩,
    ⟨⟨0x13#8, 5#8, 0#16, []⟩, ⟨0x13#8, 5#8, 1#16, [0#8]⟩, by decide⟩⟩

theorem witness_FrameLayout : (frame (.stop 0#8 0#16 [])).length = 4 := by decide

/-- The longest path that is accepted, and a command of each other kind. -/
theorem witness_CountByteTellsFrameLength :
    validate strictParams (encode (.play 0#8 0#16 (List.replicate 254 0x41#8))) = none
    ∧ validate strictParams (encode (.play 0#8 0#16 [])) = none
    ∧ validate strictParams (encode (.setVolume 30#8 0#16 [])) = none := by decide +kernel

theorem witness_EncodeOfDecodedWord :
    0x010000FF04 < 2 ^ (32 + 8 * 1)
    ∧ decodeTableWord (32 + 8 * 1) 0x010000FF04 = some (.stop 0xFF#8 0#16 [0x01#8]) := by decide

/-- Each case of R85 at its ends. -/
theorem witness_PathCharCases :
    encodePathChar 0x2E#8 = 0x2A#8 ∧ encodePathChar 0x61#8 = 0x41#8 ∧ encodePathChar 0x7A#8 = 0x5A#8
    ∧ encodePathChar 0x60#8 = 0x60#8 ∧ encodePathChar 0x7B#8 = 0x7B#8 := by decide

theorem witness_PathBytesInOrder : 1 < [0x2E#8, 0x61#8].length := by decide

theorem witness_PlayLengthByteDoesNotWrap :
    checkPath strictParams (List.replicate 254 0x41#8) = none := by decide +kernel

/-- Two different paths of one length whose bytes alias. -/
theorem witness_AliasedPathsSameFrame :
    [0x2E#8, 0x61#8].length = [0x2A#8, 0x41#8].length
    ∧ ∀ k < [0x2E#8, 0x61#8].length,
        ([0x2E#8, 0x61#8][k]?).map encodePathChar = ([0x2A#8, 0x41#8][k]?).map encodePathChar := by decide

theorem witness_OneByteChangeDetected :
    2 < (buildFrame 0x56#8 []).length ∧ (buildFrame 0x56#8 [])[2]? ≠ some 0x01#8 := by decide

theorem witness_StopCompletes : State.reset.st = .idle := rfl

theorem witness_PlayCompletes :
    State.reset.st = .idle ∧ [0x20#8, 0x7E#8].length ≤ 254
    ∧ ∀ c ∈ [0x20#8, 0x7E#8], c ∈ State.reset.params.pathCharset := by decide

/-- The check off with a volume above the limit; the check on with a volume at it. -/
theorem witness_SetVolumeCompletes :
    (State.reset.st = .idle ∧ (State.reset.params.volCheck = false ∨ 0xFF#8 ≤ State.reset.params.volMax))
    ∧ ({ State.reset with params := strictParams }.st = .idle ∧ 30#8 ≤ strictParams.volMax) := by decide

theorem witness_SetPlayModelCompletes :
    State.reset.st = .idle ∧ ((2#8 : Byte) = 0x00#8 ∨ (2#8 : Byte) = 0x01#8 ∨ (2#8 : Byte) = 0x02#8) := by decide

theorem witness_SetLoopCountCompletes : State.reset.st = .idle := rfl

/-- Both sides of the latch's bound. -/
theorem witness_LatchedPathFits :
    (List.replicate 254 0x41#8).length ≤ 254 ∧ ¬ (List.replicate 255 0x41#8).length ≤ 254 := by decide +kernel

theorem witness_BusyBlockTurnsCommandAway : (emitting 0#9 0#8).st ≠ .idle ∧ responding.st ≠ .idle := by decide

theorem witness_StepRunsDecodedCommand :
    (State.reset.withFetchWord 8 0x04).st = .idle ∧ (State.reset.withFetchWord 8 0x04).ports.rst = false
    ∧ (State.reset.withFetchWord 8 0x04).ports.cmdValid = true
    ∧ decode (State.reset.withFetchWord 8 0x04).ports.cmd = .instr (.stop 0#8 0#16 [])
    ∧ (Instr.stop 0#8 0#16 []).wellFormed (State.reset.withFetchWord 8 0x04).params = true := by decide

theorem witness_StepTakesScheduledPorts :
    { State.reset with inputs := [ready, taking] }.inputs = ready :: [taking] ∧ State.reset.inputs = [] := by
  decide

theorem witness_PlacedWordRuns :
    decodeTableWord 8 0x19 = some (.setLoopCount 0#8 0#16 [])
    ∧ (Instr.setLoopCount 0#8 0#16 []).wellFormed State.reset.params = true := by decide

/-- In each sequencer state the ports another state would listen to are asserted. -/
theorem witness_IdleStepChangesNothing :
    (State.reset.st = .idle ∧ failing.rst = false ∧ failing.cmdValid = false)
    ∧ ((emitting 0#9 0#8).st = .emit ∧ taking.rst = false ∧ taking.txReady = false ∧ taking.txErr = false)
    ∧ (responding.st = .resp ∧ failing.rspReady = false) := by decide

theorem witness_AcceptFollowsValidation :
    State.reset.st = .idle ∧ (Inputs.offer stopRecord).rst = false ∧ (Inputs.offer stopRecord).cmdValid = true
    ∧ (Inputs.offer stopRecord).cmd.presentable State.reset.params = true
    ∧ validate State.reset.params (Inputs.offer stopRecord).cmd = none
    ∧ validate State.reset.params (Inputs.offer ⟨0x18#8, 3#8, 0#16, []⟩).cmd = some .playModel := by decide

/-- The first byte and the checksum byte. -/
theorem witness_SinkAcceptMovesOneByte :
    (Invariant (emitting 0#9 0x00#8) ∧ Invariant (emitting 3#9 0xAE#8))
    ∧ (emitting 0#9 0x00#8).st = .emit
    ∧ decode (emitting 0#9 0x00#8).latchedRecord = .instr (.stop 0#8 0#16 [])
    ∧ ready.rst = false ∧ ready.txErr = false ∧ ready.txReady = true
    ∧ (emitting 0#9 0x00#8).idx.toNat < frameLen (.stop 0#8 0#16 []) - 1
    ∧ ¬ (emitting 3#9 0xAE#8).idx.toNat < frameLen (.stop 0#8 0#16 []) - 1 :=
  ⟨⟨invariant_emitting_first, invariant_emitting_last⟩, by decide⟩

theorem witness_SinkFailEndsFrame :
    (emitting 2#9 0xAE#8).st = .emit ∧ failing.rst = false ∧ failing.txErr = true := by decide

theorem witness_TakeReturnsToIdle :
    responding.st = .resp ∧ taking.rst = false ∧ taking.rspReady = true := by decide

/-- A step in EMIT and one in RESP. -/
theorem witness_OneCommandInFlight :
    (∃ t, portStep ready (emitting 3#9 0xAE#8) = .next t) ∧ ready.rst = false
    ∧ (∃ t, portStep taking responding = .next t) ∧ taking.rst = false :=
  ⟨⟨_, rfl⟩, rfl, ⟨_, rfl⟩, rfl⟩

theorem witness_OfferIsStable :
    (emitting 1#9 0xAA#8).st = .emit ∧ (∃ t, portStep taking (emitting 1#9 0xAA#8) = .next t)
    ∧ taking.rst = false ∧ taking.txErr = false ∧ taking.txReady = false :=
  ⟨rfl, ⟨_, rfl⟩, rfl, rfl, rfl⟩

/-- Of AtMostOneRecordPerStep and ParametersAreStatic, whose one hypothesis this is. -/
theorem witness_step_answers : ∃ t, portStep ready (emitting 0#9 0x00#8) = .next t := ⟨_, rfl⟩

/-- Each case of `ST`. -/
theorem witness_OutputsFollowState :
    State.reset.st ≠ .emit ∧ State.reset.st ≠ .resp ∧ responding.st = .resp := by decide

theorem witness_LateCommandPortsIgnored :
    (emitting 1#9 0xAA#8).st ≠ .idle ∧ ready.cmdValid = false := by decide

theorem witness_OfferedByteIsFrameByte :
    Invariant (emitting 3#9 0xAE#8) ∧ (emitting 3#9 0xAE#8).st = .emit
    ∧ decode (emitting 3#9 0xAE#8).latchedRecord = .instr (.stop 0#8 0#16 []) :=
  ⟨invariant_emitting_last, by decide⟩

/-- Four bytes accepted after an idle step, with another command on the port meanwhile. -/
theorem witness_CommandEmitsItsFrame :
    Invariant { State.reset with inputs := [Inputs.offer stopRecord, ready, ready, ready, ready] ++ [taking] }
    ∧ State.reset.st = .idle ∧ validate State.reset.params (encode (.stop 0#8 0#16 [])) = none
    ∧ (∃ t, exec (.stop 0#8 0#16 []) { State.reset with
        inputs := [Inputs.offer stopRecord, ready, ready, ready, ready] ++ [taking] } = .next t)
    ∧ (∀ inp ∈ [Inputs.offer stopRecord, ready, ready, ready, ready],
        inp.undisturbed = true ∧ inp.rspReady = false)
    ∧ readyCount [Inputs.offer stopRecord, ready, ready, ready, ready] = frameLen (.stop 0#8 0#16 []) :=
  ⟨by constructor <;> simp [State.reset, producedCodes], rfl, by decide, ⟨_, rfl⟩, by decide, by decide⟩

/-- A failure at the first byte (`k` = 0) and at the checksum byte (`k` = 3). -/
theorem witness_FailedFrameReportsAcceptedBytes :
    Invariant { State.reset with inputs := [ready, ready, ready] ++ failing :: [] }
    ∧ Invariant { State.reset with inputs := [] ++ failing :: [] }
    ∧ validate State.reset.params (encode (.stop 0#8 0#16 [])) = none
    ∧ (∀ inp ∈ [ready, ready, ready], inp.undisturbed = true)
    ∧ readyCount [ready, ready, ready] = 3 ∧ readyCount [] = 0
    ∧ 3 < frameLen (.stop 0#8 0#16 []) ∧ failing.rst = false ∧ failing.txErr = true := by
  refine ⟨?_, ?_, by decide⟩ <;> constructor <;> simp [State.reset, producedCodes]

/-- A whole command: accepted, emitted and its response taken. -/
theorem witness_RunLaw :
    Invariant { State.reset with inputs := [Inputs.offer stopRecord, ready, ready, ready, ready, taking] }
    ∧ (∀ inp ∈ [Inputs.offer stopRecord, ready, ready, ready, ready, taking].take 6, inp.undisturbed = true)
    ∧ ∃ t, runSteps 6 { State.reset with inputs := [Inputs.offer stopRecord, ready, ready, ready, ready, taking] }
        = .next t ∧ t.st = .idle
      ∧ complete { State.reset with inputs := [Inputs.offer stopRecord, ready, ready, ready, ready, taking] } :=
  ⟨by constructor <;> simp [State.reset, producedCodes], by decide, ⟨_, rfl, rfl, rfl, rfl⟩⟩

/-- Each cause of R148 is reported for some record, `pathLength` of a path that also leaves the charset. -/
theorem witness_ValidationReportsFirstCause :
    validate strictParams ⟨0x00#8, 0#8, 0#16, []⟩ = some .illegalOpcode
    ∧ validate strictParams ⟨0x08#8, 0#8, 0#16, List.replicate 255 0x00#8⟩ = some .pathLength
    ∧ validate strictParams ⟨0x08#8, 0#8, 0#16, [0x00#8]⟩ = some .pathCharset
    ∧ validate strictParams ⟨0x13#8, 31#8, 0#16, []⟩ = some .volumeRange
    ∧ validate strictParams ⟨0x18#8, 3#8, 0#16, []⟩ = some .playModel := by decide +kernel

theorem witness_EncodingErrorIsPrecise :
    State.reset.st = .idle ∧ (Inputs.offer ⟨0x18#8, 0xFF#8, 0#16, []⟩).rst = false
    ∧ (Inputs.offer ⟨0x18#8, 0xFF#8, 0#16, []⟩).cmdValid = true
    ∧ (Inputs.offer ⟨0x18#8, 0xFF#8, 0#16, []⟩).cmd.presentable State.reset.params = true
    ∧ validate State.reset.params (Inputs.offer ⟨0x18#8, 0xFF#8, 0#16, []⟩).cmd = some .playModel := by decide

/-- A path one byte too long; a path of the longest length with a byte outside the charset. -/
theorem witness_PlayErrors :
    State.reset.st = .idle ∧ 254 < (List.replicate 255 0x41#8).length
    ∧ (List.replicate 254 0x7F#8).length ≤ 254
    ∧ ∃ c ∈ List.replicate 254 0x7F#8, c ∉ State.reset.params.pathCharset := by
  decide +kernel

theorem witness_SetVolumeError :
    { State.reset with params := strictParams }.st = .idle ∧ strictParams.volCheck = true
    ∧ strictParams.volMax < 31#8 ∧ State.reset.params.volCheck = false := by decide

theorem witness_SetPlayModelError :
    State.reset.st = .idle ∧ (3#8 : Byte) ≠ 0x00#8 ∧ (3#8 : Byte) ≠ 0x01#8 ∧ (3#8 : Byte) ≠ 0x02#8 := by decide

/-- Every line of R149 has requests that compete. -/
theorem witness_EventPriority :
    resetting.rst = true ∧ (failing.rst = false ∧ (emitting 2#9 0xAE#8).st = .emit ∧ failing.txErr = true)
    ∧ (ready.rst = false ∧ ready.txErr = false ∧ ready.txReady = true)
    ∧ (State.reset.st = .idle ∧ (Inputs.offer stopRecord).rst = false ∧ (Inputs.offer stopRecord).cmdValid = true)
    ∧ (responding.st = .resp ∧ taking.rst = false ∧ taking.rspReady = true) := by decide

theorem witness_OfferedResponseIsInTable : Invariant responding ∧ responding.st = .resp :=
  ⟨invariant_responding, rfl⟩

theorem witness_ResetClearsRegisters : resetting.rst = true := rfl

theorem witness_ResetDropsTheCommand :
    resetting.rst = true ∧ (∃ t, portStep resetting (emitting 2#9 0xAE#8) = .next t)
    ∧ (∃ t, portStep resetting State.reset = .next t) ∧ State.reset.st = .idle :=
  ⟨rfl, ⟨_, rfl⟩, ⟨_, rfl⟩, rfl⟩

/-- A step that leaves the latches absent, and one that writes them. -/
theorem witness_AbsentLatchesNeverRead :
    State.reset.latched = false ∧ State.reset.st ≠ .emit
    ∧ (∃ t, portStep Inputs.quiet State.reset = .next t ∧ t.latched = false)
    ∧ ∃ t, portStep (Inputs.offer stopRecord) State.reset = .next t ∧ t.latched = true :=
  ⟨rfl, by decide, ⟨_, rfl, rfl⟩, ⟨_, rfl, rfl⟩⟩

/-- An opcode that is none of the five, and the shortest path that is too long. -/
theorem witness_AbsentLatchReadFaults :
    ready.rst = false ∧ ready.txErr = false ∧ ready.txReady = true
    ∧ { emitting 0#9 0#8 with lop := 0x05#8 }.st = .emit
    ∧ { emitting 0#9 0#8 with lop := 0x05#8 }.lop ∉ [0x04#8, 0x08#8, 0x13#8, 0x18#8, 0x19#8]
    ∧ 254 < { emitting 0#9 0#8 with lop := 0x08#8, lpath := List.replicate 255 0x61#8 }.lpath.length :=
  ⟨rfl, rfl, rfl, rfl, by decide, by
    show 254 < (List.replicate 255 0x61#8).length
    rw [List.length_replicate]; decide⟩

theorem witness_ReachableStatesNeverFault : Invariant (emitting 3#9 0xAE#8) ∧ Invariant responding :=
  ⟨invariant_emitting_last, invariant_responding⟩

theorem witness_EveryStepKeepsInvariant :
    Invariant { emitting 3#9 0xAE#8 with inputs := [ready] }
    ∧ ∃ t, step { emitting 3#9 0xAE#8 with inputs := [ready] } = .next t := by
  refine ⟨?_, _, rfl⟩
  have h := invariant_emitting_last
  exact ⟨h.1, h.2, h.3, h.4, h.5, h.6, h.7⟩

end Sys2Proof.Tests
end

/-! SUPPORT. Rules for the proofs about states: the forward reading of a step, the outputs, the running checksum
and the latched record. -/

namespace Sys2Proof.Machine

/-! ### The forward reading of a step: what each event answers where it is chosen -/

theorem portStep_reset {inp : Inputs} (s : State) (hrst : inp.rst = true) :
    portStep inp s = .next (s.clearRegisters.observe .reset) := by
  simp [portStep, selectEvent, hrst, fire, resetEvent]

theorem portStep_accept {inp : Inputs} {s : State} (hrst : inp.rst = false) (hst : s.st = .idle)
    (hvalid : inp.cmdValid = true) : portStep inp s = acceptRecord inp.cmd s := by
  simp [portStep, selectEvent, hrst, hst, hvalid, fire]

theorem portStep_sinkFail {inp : Inputs} {s : State} (hrst : inp.rst = false) (hst : s.st = .emit)
    (herr : inp.txErr = true) : portStep inp s = .next s.transportError := by
  simp [portStep, selectEvent, hrst, hst, herr, fire, sinkFail]

theorem portStep_sinkAccept {inp : Inputs} {s : State} (hrst : inp.rst = false) (hst : s.st = .emit)
    (herr : inp.txErr = false) (hready : inp.txReady = true) : portStep inp s = sinkAccept s := by
  simp [portStep, selectEvent, hrst, hst, herr, hready, fire]

theorem portStep_take {inp : Inputs} {s : State} (hrst : inp.rst = false) (hst : s.st = .resp)
    (hready : inp.rspReady = true) :
    portStep inp s = .next (s.observe (.response s.rcode s.rinfo)).backToIdle := by
  simp [portStep, selectEvent, hrst, hst, hready, fire, take]

/-- R122: where no transfer is enabled the step is `Idle`. -/
theorem portStep_idle {inp : Inputs} {s : State} (hrst : inp.rst = false)
    (hidle : s.st = .idle → inp.cmdValid = false)
    (hemit : s.st = .emit → inp.txErr = false ∧ inp.txReady = false)
    (hresp : s.st = .resp → inp.rspReady = false) : portStep inp s = .next s := by
  cases hst : s.st with
  | idle => simp [portStep, selectEvent, hrst, hst, hidle hst, fire]
  | emit => simp [portStep, selectEvent, hrst, hst, hemit hst, fire]
  | resp => simp [portStep, selectEvent, hrst, hst, hresp hst, fire]

/-! ### Acceptance of a record -/

theorem acceptRecord_notPresentable {r : Record} {s : State} (h : r.presentable s.params = false) :
    acceptRecord r s = .refused .notPresentable := by
  simp [acceptRecord, h]

theorem accept_valid {s : State} (r : Record) (hst : s.st = .idle) :
    s.accept none r = (s.observe (.accepted r)).startFrame r := by
  simp [State.accept, hst]

theorem accept_invalid {s : State} (c : Cause) (r : Record) (hst : s.st = .idle) :
    s.accept (some c) r = (s.observe (.accepted r)).encodingError c := by
  simp [State.accept, hst]

/-! ### The parameters under the operations that choose -/

@[simp] theorem State.accept_params (cause : Option Cause) (r : Record) (s : State) :
    (s.accept cause r).params = s.params := by
  rcases accept_cases cause r s with ⟨-, -, he⟩ | ⟨c, -, -, he⟩ | ⟨-, he⟩ <;> simp [he]

@[simp] theorem State.afterByte_params (n : Nat) (b : Byte) (s : State) :
    (s.afterByte n b).params = s.params := by
  by_cases hk : s.idx.toNat < n - 1
  · rw [afterByte_body b hk, State.observe_params]
  · rw [afterByte_last b hk, State.endFrame_params, State.observe_params]

/-! ### The outputs in EMIT and outside it -/

theorem State.txData_emit {s : State} {i : Instr} (hst : s.st = .emit) (hi : s.latchedInstr = .ok i) :
    s.txData = frameByte i s.acc s.idx.toNat := by
  simp [State.txData, hst, hi]

theorem State.txLast_emit {s : State} {i : Instr} (hst : s.st = .emit) (hi : s.latchedInstr = .ok i) :
    s.txLast = decide (s.idx.toNat = frameLen i - 1) := by
  simp [State.txLast, hst, hi]

theorem State.txData_of_ne_emit {s : State} (hst : s.st ≠ .emit) : s.txData = none := by
  unfold State.txData
  split
  · contradiction
  · rfl

theorem State.txLast_of_ne_emit {s : State} (hst : s.st ≠ .emit) : s.txLast = false := by
  unfold State.txLast
  split
  · contradiction
  · rfl

theorem State.rspCode_resp {s : State} (hst : s.st = .resp) : s.rspCode = some s.rcode := by
  simp [State.rspCode, hst]

theorem State.rspInfo_resp {s : State} (hst : s.st = .resp) : s.rspInfo = some s.rinfo := by
  simp [State.rspInfo, hst]

theorem State.rspCode_of_ne_resp {s : State} (hst : s.st ≠ .resp) : s.rspCode = none := by
  unfold State.rspCode
  split
  · contradiction
  · rfl

theorem State.rspInfo_of_ne_resp {s : State} (hst : s.st ≠ .resp) : s.rspInfo = none := by
  unfold State.rspInfo
  split
  · contradiction
  · rfl

/-! ### The running checksum and the frame -/

/-- R93, R94: where the layout mapper gives a body byte, one step of the running checksum takes that byte in. -/
theorem checksum_take_succ {i : Instr} {acc b : Byte} {k : Nat} (hk : k < frameLen i - 1)
    (hb : frameByte i acc k = some b) :
    checksum ((body i).take (k + 1)) = accStep (checksum ((body i).take k)) b := by
  have hbody : (body i)[k]? = some b := by rwa [frameByte, if_pos hk] at hb
  rw [List.take_add_one, hbody, Option.toList_some, checksum_snoc]

/-- R92, R94: with the running checksum of the bytes before index `k`, the layout mapper gives the frame's byte at
`k`, the last one included. -/
theorem frameByte_eq_frame {i : Instr} {k : Nat} (hk : k < frameLen i) :
    frameByte i (checksum ((body i).take k)) k = (frame i)[k]? := by
  by_cases hbody : k < frameLen i - 1
  · exact frameByte_body _ hbody
  · obtain rfl : k = frameLen i - 1 := by omega
    have hlen := body_length i
    rw [frameByte_last, frame_last, List.take_of_length_le (by omega)]

/-! ### The latched record -/

/-- R25, R148: a record that passes validation passes it as latched: `play` reads the path, which then fits the latch,
and no other command does. -/
theorem validate_latchedPath {p : Params} {r : Record} (h : validate p r = none) :
    validate p { r with path := latchedPath r.path } = none := by
  by_cases hplay : r.op = opPlay
  · have hfits : r.path.length ≤ Config.pathMax := by
      by_contra hlong
      simp [validate, hplay, Nat.lt_of_not_le hlong] at h
    rwa [latchedPath_of_le hfits]
  · simpa [validate, hplay] using h

@[simp] theorem State.startFrame_latchedRecord (s : State) (r : Record) :
    (s.startFrame r).latchedRecord = { r with path := latchedPath r.path } := rfl

end Sys2Proof.Machine

/-! SUPPORT. The invariant: what it says of EMIT, and that every step keeps it (O59, O41, O56). -/

namespace Sys2Proof.Machine

/-! ### What the invariant says of EMIT -/

/-- R36, R22: in EMIT the latches hold a record that passed validation, so they select a command with a layout. -/
theorem Invariant.latchedInstr_emit {s : State} (h : Invariant s) (hst : s.st = .emit) :
    ∃ i, s.latchedInstr = .ok i := by
  obtain ⟨i, hdec, hlen⟩ := decode_of_valid (h.latched_valid (h.emit_latched hst))
  exact ⟨i, latchedInstr_ok.mpr ⟨hdec, hlen⟩⟩

/-- R92, R94: in EMIT the byte at `IDX` is the frame's. -/
theorem Invariant.frameByte_emit {s : State} {i : Instr} (h : Invariant s) (hst : s.st = .emit)
    (hi : s.latchedInstr = .ok i) :
    frameByte i s.acc s.idx.toNat = (frame i)[s.idx.toNat]? := by
  obtain ⟨hidx, hacc⟩ := h.emit_running hst i (latchedInstr_ok.mp hi).1
  rw [hacc, frameByte_eq_frame hidx]

/-- R26: in EMIT there is a byte at `IDX`. -/
theorem Invariant.exists_frameByte {s : State} {i : Instr} (h : Invariant s) (hst : s.st = .emit)
    (hi : s.latchedInstr = .ok i) : ∃ b, frameByte i s.acc s.idx.toNat = some b := by
  obtain ⟨hidx, -⟩ := h.emit_running hst i (latchedInstr_ok.mp hi).1
  rw [h.frameByte_emit hst hi]
  exact ⟨_, List.getElem?_eq_getElem (by rwa [frame_length])⟩

/-! ### Each update keeps the invariant -/

/-- R141: the counts that go with a code, as the invariant's `resp_info` has them. -/
def ResponseInTable (code : Code4) (info : Count9) : Prop :=
  (code = codeOk → 4 ≤ info.toNat ∧ info.toNat ≤ 259)
  ∧ (code = codeTransportError → info.toNat ≤ 258)
  ∧ (code ≠ codeOk → code ≠ codeTransportError → info = 0#9)

theorem responseInTable_ok {n : Nat} (hmin : 4 ≤ n) (hmax : n ≤ 259) :
    ResponseInTable codeOk (BitVec.ofNat 9 n) := by
  have hn : (BitVec.ofNat 9 n).toNat = n := by rw [BitVec.toNat_ofNat]; omega
  simp [ResponseInTable, codeOk, codeTransportError, hn, hmin, hmax]

theorem responseInTable_transportError {info : Count9} (h : info.toNat ≤ 258) :
    ResponseInTable codeTransportError info := by
  simp [ResponseInTable, codeOk, codeTransportError, h]

theorem responseInTable_cause (c : Cause) : ResponseInTable (causeCode c) 0#9 := by
  cases c <;> simp [ResponseInTable, causeCode, codeOk, codeTransportError]

theorem causeCode_produced (c : Cause) : causeCode c ∈ producedCodes := by
  cases c <;> decide

theorem Invariant.observe {s : State} (h : Invariant s) (o : Obs) : Invariant (s.observe o) :=
  ⟨h.outside_emit, h.emit_latched, h.latched_valid, h.lpath_bound, h.emit_running, h.code_produced, h.resp_info⟩

theorem Invariant.popInputs {s : State} (h : Invariant s) : Invariant s.popInputs :=
  ⟨h.outside_emit, h.emit_latched, h.latched_valid, h.lpath_bound, h.emit_running, h.code_produced, h.resp_info⟩

/-- R160: the reset registers meet the invariant whatever the state was. -/
theorem invariant_clearRegisters (s : State) : Invariant s.clearRegisters where
  outside_emit _ := ⟨rfl, rfl⟩
  emit_latched := by simp
  latched_valid := by simp
  lpath_bound := Nat.zero_le _
  emit_running := by simp
  code_produced := by simp [producedCodes]
  resp_info := by simp

/-- R123: the accepted record passed validation, and no byte of its frame is accepted yet. -/
theorem Invariant.startFrame {s : State} {r : Record} (h : Invariant s)
    (hvalid : validate s.params r = none) : Invariant (s.startFrame r) where
  outside_emit := by simp
  emit_latched _ := rfl
  latched_valid _ := validate_latchedPath hvalid
  lpath_bound := latchedPath_length r.path
  emit_running _ i _ :=
    ⟨Nat.lt_of_lt_of_le four_pos (frameLen_ge i), by simp⟩
  code_produced := h.code_produced
  resp_info := by simp

/-- R124, R125: leaving EMIT with a response of the table. -/
theorem Invariant.endFrame {s : State} {code : Code4} {info : Count9} (h : Invariant s)
    (hcode : code ∈ producedCodes) (hinfo : ResponseInTable code info) :
    Invariant (s.endFrame code info) where
  outside_emit _ := ⟨rfl, rfl⟩
  emit_latched := by simp
  latched_valid := h.latched_valid
  lpath_bound := h.lpath_bound
  emit_running := by simp
  code_produced := hcode
  resp_info _ := hinfo

/-- R150: outside EMIT, where `IDX` and `ACC` are 0 already, taking an encoding error is an entry to RESP like the end
of a frame. -/
theorem Invariant.encodingError_eq_endFrame {s : State} (h : Invariant s) (hst : s.st ≠ .emit) (c : Cause) :
    s.encodingError c = s.endFrame (causeCode c) 0#9 := by
  obtain ⟨hidx, hacc⟩ := h.outside_emit hst
  simp [State.encodingError, State.endFrame, State.enterResp, hidx, hacc]

theorem Invariant.encodingError {s : State} (h : Invariant s) (hst : s.st ≠ .emit) (c : Cause) :
    Invariant (s.encodingError c) := by
  rw [h.encodingError_eq_endFrame hst]
  exact h.endFrame (causeCode_produced c) (responseInTable_cause c)

theorem Invariant.accept {s : State} (h : Invariant s) (r : Record) :
    Invariant (s.accept (validate s.params r) r) := by
  rcases accept_cases (validate s.params r) r s with ⟨-, hv, he⟩ | ⟨c, hst, -, he⟩ | ⟨-, he⟩ <;> rw [he]
  · exact (h.observe _).startFrame hv
  · exact (h.observe _).encodingError (by simp [hst]) c
  · exact h

/-- R26: in EMIT `IDX` is at most 258, as no frame is longer than 259 bytes. -/
theorem Invariant.idx_le {s : State} (h : Invariant s) (hst : s.st = .emit) : s.idx.toNat ≤ 258 := by
  obtain ⟨i, hi⟩ := h.latchedInstr_emit hst
  obtain ⟨hdec, hmax⟩ := latchedInstr_ok.mp hi
  obtain ⟨hidx, -⟩ := h.emit_running hst i hdec
  simp only [Config.frameMax, Config.pathMax] at hmax
  omega

theorem Invariant.transportError {s : State} (h : Invariant s) (hst : s.st = .emit) :
    Invariant s.transportError :=
  h.endFrame (by decide) (responseInTable_transportError (h.idx_le hst))

/-- R26, R93: an accepted body byte moves `IDX` on within the frame, and `ACC` takes the byte in. -/
theorem Invariant.nextByte {s : State} {i : Instr} {b : Byte} (h : Invariant s) (hst : s.st = .emit)
    (hdec : decode s.latchedRecord = .instr i) (hb : frameByte i s.acc s.idx.toNat = some b)
    (hk : s.idx.toNat < frameLen i - 1) :
    Invariant { s with acc := accStep s.acc b, idx := s.idx + 1#9 } where
  outside_emit hne := absurd hst hne
  emit_latched := h.emit_latched
  latched_valid := h.latched_valid
  lpath_bound := h.lpath_bound
  emit_running _ j hj := by
    obtain rfl : i = j := Decoded.instr.inj (hdec.symm.trans hj)
    obtain ⟨-, hacc⟩ := h.emit_running hst i hdec
    have hle := h.idx_le hst
    have hnext : (s.idx + 1#9).toNat = s.idx.toNat + 1 := by bv_omega
    refine ⟨by rw [hnext]; omega, ?_⟩
    rw [hnext, checksum_take_succ hk hb, ← hacc]
  code_produced := h.code_produced
  resp_info hresp := by simp [hst] at hresp

/-- R124: the sink's acceptance of the byte at `IDX`, a body byte or the last one. -/
theorem Invariant.afterByte {s : State} {i : Instr} {b : Byte} (h : Invariant s) (hst : s.st = .emit)
    (hi : s.latchedInstr = .ok i) (hb : frameByte i s.acc s.idx.toNat = some b) :
    Invariant (s.afterByte (frameLen i) b) := by
  obtain ⟨hdec, hmax⟩ := latchedInstr_ok.mp hi
  by_cases hk : s.idx.toNat < frameLen i - 1
  · rw [afterByte_body b hk]
    exact (h.observe _).nextByte hst hdec hb hk
  · rw [afterByte_last b hk]
    exact (h.observe _).endFrame (by decide) (responseInTable_ok (frameLen_ge i) hmax)

theorem Invariant.backToIdle {s : State} (h : Invariant s) (hst : s.st ≠ .emit) :
    Invariant s.backToIdle where
  outside_emit _ := h.outside_emit hst
  emit_latched := by simp
  latched_valid := h.latched_valid
  lpath_bound := h.lpath_bound
  emit_running := by simp
  code_produced := h.code_produced
  resp_info := by simp

/-- The invariant under every event, in the order of R149: reset, acceptance of a record, a failed byte, an accepted
byte, the response taken, and `Idle`. -/
theorem Invariant.of_portStep {inp : Inputs} {s t : State} (h : Invariant s) (hstep : portStep inp s = .next t) :
    Invariant t := by
  rcases portStep_cases hstep with
    ⟨-, rfl⟩ | ⟨-, -, -, -, rfl⟩ | ⟨-, hst, -, rfl⟩ | ⟨i, b, -, hst, -, -, hi, hb, rfl⟩ |
    ⟨-, hst, -, rfl⟩ | ⟨-, -, -, -, rfl⟩
  · exact (invariant_clearRegisters s).observe _
  · exact h.accept inp.cmd
  · exact h.transportError hst
  · exact h.afterByte hst hi hb
  · exact (h.observe _).backToIdle (by simp [hst])
  · exact h

/-- Settles O59: every update a step can make keeps the invariant, and taking the port values from the schedule does. -/
theorem everyStepKeepsInvariant : Obligations.EveryStepKeepsInvariant := by
  intro s t h hstep
  rw [step_eq_portStep] at hstep
  exact h.popInputs.of_portStep hstep

/-- Settles O41: the invariant's running checksum makes the layout mapper give the frame's byte at every index. -/
theorem offeredByteIsFrameByte : Obligations.OfferedByteIsFrameByte := by
  intro s i h hst hdec
  obtain ⟨j, hj⟩ := h.latchedInstr_emit hst
  obtain rfl : i = j := Decoded.instr.inj (hdec.symm.trans (latchedInstr_ok.mp hj).1)
  obtain ⟨b, hb⟩ := h.exists_frameByte hst hj
  have hlen := frameLen_ge i
  refine ⟨?_, ?_, ?_⟩
  · rw [State.txData_emit hst hj, h.frameByte_emit hst hj]
  · simp [State.txData_emit hst hj, hb]
  · rw [State.txLast_emit hst hj, frame_length, decide_eq_true_iff]
    omega

/-! ### No fault -/

/-- R36, R124: the one event that reads the latches finds a layout and a byte. -/
theorem Invariant.sinkAccept_answers {s : State} (h : Invariant s) (hst : s.st = .emit) :
    ∃ t, sinkAccept s = .next t := by
  obtain ⟨i, hi⟩ := h.latchedInstr_emit hst
  obtain ⟨b, hb⟩ := h.exists_frameByte hst hi
  exact ⟨_, sinkAccept_emit hst hi hb⟩

/-- Settles O56, by the events of R149: a command the port cannot present is refused, and the sink's acceptance, the
only event with a fault, answers under the invariant. -/
theorem reachableStatesNeverFault : Obligations.ReachableStatesNeverFault := by
  intro inp s h
  rcases selectEvent_cases inp s.st with
    ⟨hrst, -⟩ | ⟨hrst, hst, hvalid, -⟩ | ⟨hrst, hst, herr, -⟩ | ⟨hrst, hst, herr, hready, -⟩ |
    ⟨hrst, hst, hready, -⟩ | ⟨hrst, hidle, hemit, hresp, -⟩
  · exact .inl ⟨_, portStep_reset s hrst⟩
  · rw [portStep_accept hrst hst hvalid]
    cases hpres : inp.cmd.presentable s.params with
    | true => exact .inl ⟨_, acceptRecord_presentable hpres⟩
    | false => exact .inr ⟨acceptRecord_notPresentable hpres, hst, hvalid, rfl⟩
  · exact .inl ⟨_, portStep_sinkFail hrst hst herr⟩
  · rw [portStep_sinkAccept hrst hst herr hready]
    exact .inl (h.sinkAccept_answers hst)
  · exact .inl ⟨_, portStep_take hrst hst hready⟩
  · exact .inl ⟨_, portStep_idle hrst hidle hemit hresp⟩

end Sys2Proof.Machine

/-! SUPPORT. What a step does not read, does not write and does not offer (O55, O39, O54, O26). -/

namespace Sys2Proof.Machine

/-! ### Other bits in the latches -/

/-- The state with the record `l` in the latches, whatever they held, and the flag as it is. -/
def State.withLatches (l : Record) (s : State) : State :=
  { s with lop := l.op, la8 := l.a8, la16 := l.a16, lpath := l.path }

@[simp] theorem State.withLatches_st (l : Record) (s : State) : (s.withLatches l).st = s.st := rfl

theorem State.txData_withLatches {s : State} (l : Record) (hst : s.st ≠ .emit) :
    (s.withLatches l).txData = s.txData := by
  rw [State.txData_of_ne_emit hst, State.txData_of_ne_emit (s := s.withLatches l) hst]

theorem State.txLast_withLatches {s : State} (l : Record) (hst : s.st ≠ .emit) :
    (s.withLatches l).txLast = s.txLast := by
  rw [State.txLast_of_ne_emit hst, State.txLast_of_ne_emit (s := s.withLatches l) hst]

/-- R36: outside EMIT no event reads the latches. A reset and the start of a frame write them all, so the next state
forgets what they held; every other step leaves them and the flag as they are, and does not enter EMIT. -/
theorem portStep_withLatches {inp : Inputs} {s t : State} (l : Record) (hne : s.st ≠ .emit)
    (hstep : portStep inp s = .next t) :
    portStep inp (s.withLatches l) = .next t
    ∨ (portStep inp (s.withLatches l) = .next (t.withLatches l) ∧ t.latched = s.latched ∧ t.st ≠ .emit) := by
  rcases portStep_cases hstep with
    ⟨hrst, rfl⟩ | ⟨hrst, hst, hvalid, hpres, rfl⟩ | ⟨-, hst, -, -⟩ | ⟨-, -, -, hst, -⟩ |
    ⟨hrst, hst, hready, rfl⟩ | ⟨hrst, hidle, hemit, hresp, rfl⟩
  · exact .inl (portStep_reset _ hrst)
  · have hst' : (s.withLatches l).st = .idle := hst
    have hother : portStep inp (s.withLatches l)
        = .next ((s.withLatches l).accept (validate s.params inp.cmd) inp.cmd) :=
      (portStep_accept hrst hst' hvalid).trans (acceptRecord_presentable hpres)
    cases hv : validate s.params inp.cmd with
    | none =>
      rw [hother, hv, accept_valid _ hst', accept_valid _ hst]
      exact .inl rfl
    | some c =>
      rw [hother, hv, accept_invalid c _ hst', accept_invalid c _ hst]
      exact .inr ⟨rfl, rfl, by simp⟩
  · exact absurd hst hne
  · exact absurd hst hne
  · exact .inr ⟨portStep_take hrst hst hready, rfl, by simp⟩
  · exact .inr ⟨portStep_idle hrst hidle hemit hresp, rfl, hne⟩

/-- Settles O55, by the two ways a step outside EMIT can go: it forgets the bits in the latches or it carries them
along, unread and without an offer. -/
theorem absentLatchesNeverRead : Obligations.AbsentLatchesNeverRead := by
  intro inp s t lop la8 la16 lpath habsent hne hstep
  rcases portStep_withLatches ⟨lop, la8, la16, lpath⟩ hne hstep with hsame | ⟨hother, hlatched, hne'⟩
  · exact ⟨t, hsame, rfl, fun _ => rfl, rfl, rfl⟩
  · refine ⟨_, hother, rfl, fun hl => ?_, ?_, ?_⟩
    · rw [hlatched, habsent] at hl
      contradiction
    · exact State.txData_withLatches _ hne'
    · exact State.txLast_withLatches _ hne'

/-! ### Outputs, parameters and the latched path -/

/-- Settles O39, output by output: each is given where its state says and has no value elsewhere. -/
theorem outputsFollowState : Obligations.OutputsFollowState := by
  intro s
  refine ⟨decide_eq_true_iff, decide_eq_true_iff, decide_eq_true_iff, ?_, ?_, ?_⟩
  · exact fun hne => ⟨State.txData_of_ne_emit hne, State.txLast_of_ne_emit hne⟩
  · exact fun hst => ⟨State.rspCode_resp hst, State.rspInfo_resp hst⟩
  · exact fun hne => ⟨State.rspCode_of_ne_resp hne, State.rspInfo_of_ne_resp hne⟩

/-- Settles O54, by what a step can do, event by event: no update writes the parameters. -/
theorem parametersAreStatic : Obligations.ParametersAreStatic := by
  intro inp s t hstep
  rcases portStep_cases hstep with
    ⟨-, rfl⟩ | ⟨-, -, -, -, rfl⟩ | ⟨-, -, -, rfl⟩ | ⟨i, b, -, -, -, -, -, -, rfl⟩ |
    ⟨-, -, -, rfl⟩ | ⟨-, -, -, -, rfl⟩
  · rw [State.observe_params, State.clearRegisters_params]
  · exact State.accept_params _ _ s
  · exact State.transportError_params s
  · exact State.afterByte_params _ b s
  · rw [State.backToIdle_params, State.observe_params]
  · rfl

/-- Settles O26: the free value is cut to the bound, and a path that fits is not touched. -/
theorem latchedPathFits : Obligations.LatchedPathFits :=
  fun path => ⟨latchedPath_length path, latchedPath_of_le⟩

end Sys2Proof.Machine

/-! SUPPORT. The bytes of the path in the `play` frame, and the events the command ports cannot reach (O14, O40). -/

namespace Sys2Proof.Machine

/-! ### The path in the `play` frame -/

/-- R65, R90: four bytes come before the encoded path: the start byte, the opcode, the length byte and the disk source. -/
theorem body_play (a8 : Byte) (a16 : Half) (path : List Byte) :
    body (.play a8 a16 path)
      = [Config.startByte, opPlay, playLengthByte path, diskSourceByte .flash] ++ encodePath path := rfl

theorem encodePath_getElem? (path : List Byte) (k : Nat) :
    (encodePath path)[k]? = (path[k]?).map encodePathChar :=
  List.getElem?_map

theorem frame_play_path (a8 : Byte) (a16 : Half) {path : List Byte} {k : Nat} (hk : k < path.length) :
    (frame (.play a8 a16 path))[4 + k]? = (encodePath path)[k]? := by
  have hbody : 4 + k < (body (.play a8 a16 path)).length := by
    rw [body_play, List.length_append, encodePath_length]
    exact Nat.add_lt_add_left hk 4
  rw [frame_eq_body, List.getElem?_append_left hbody, body_play,
    List.getElem?_append_right (Nat.le_add_right 4 k)]
  exact congrArg ((encodePath path)[·]?) (Nat.add_sub_cancel_left 4 k)

/-- Settles O14: byte 4 + `k` of the frame is byte `k` of the encoded path, which is a map over the path. -/
theorem pathBytesInOrder : Obligations.PathBytesInOrder := fun a8 a16 path =>
  ⟨encodePath_length path, fun k hk => (frame_play_path a8 a16 hk).trans (encodePath_getElem? path k)⟩

/-! ### The command ports in the choice of the event -/

/-- R149: outside IDLE the choice of the event looks at no command port. -/
theorem selectEvent_cmdPorts_of_ne_idle (inp : Inputs) {st : SeqState} (hst : st ≠ .idle) (v : Bool) (r : Record) :
    selectEvent { inp with cmdValid := v, cmd := r } st = selectEvent inp st := by
  cases st with
  | idle => contradiction
  | emit => rfl
  | resp => rfl

/-- R149: the record on the command port is looked at in IDLE only, and only where `cmd_valid` is asserted. -/
theorem selectEvent_cmd_of_not_valid {inp : Inputs} (hvalid : inp.cmdValid = false) (st : SeqState) (r : Record) :
    selectEvent { inp with cmd := r } st = selectEvent inp st := by
  cases st with
  | idle => simp [selectEvent, hvalid]
  | emit => rfl
  | resp => rfl

/-- A step reads the ports only to choose its event. -/
theorem portStep_congr {inp inp' : Inputs} {s : State} (h : selectEvent inp s.st = selectEvent inp' s.st) :
    portStep inp s = portStep inp' s :=
  congrArg (fire · s) h

/-- Settles O40: a step reads the ports only through the choice of its event, which outside IDLE ignores the command
ports and without `cmd_valid` the record. -/
theorem lateCommandPortsIgnored : Obligations.LateCommandPortsIgnored := fun inp s r =>
  ⟨fun hst v => portStep_congr (selectEvent_cmdPorts_of_ne_idle inp hst v r),
   fun hvalid => portStep_congr (selectEvent_cmd_of_not_valid hvalid s.st r)⟩

end Sys2Proof.Machine

/-! SUPPORT. The number layout of a record (log entry 6) and the opcode table: a record and its word determine each
other, and the opcode selects the command (O8, O9, O1, O2, O4). -/

namespace Sys2Proof.Machine

/-! ### Bytes and numbers -/

@[simp] theorem bytesOfNat_length (n w : Nat) : (bytesOfNat n w).length = n := by
  induction n generalizing w with
  | zero => rfl
  | succ n ih => simp [bytesOfNat, ih]

theorem natOfBytes_lt (bs : List Byte) : natOfBytes bs < 2 ^ (8 * bs.length) := by
  induction bs with
  | nil => simp [natOfBytes]
  | cons b bs ih =>
    have hb : b.toNat < 256 := b.isLt
    rw [natOfBytes, List.length_cons, Nat.mul_succ, Nat.pow_add]
    omega

theorem bytesOfNat_natOfBytes (bs : List Byte) : bytesOfNat bs.length (natOfBytes bs) = bs := by
  induction bs with
  | nil => rfl
  | cons b bs ih =>
    have hb : b.toNat < 256 := b.isLt
    have hlow : natOfBytes (b :: bs) % 256 = b.toNat := by rw [natOfBytes]; omega
    have hrest : natOfBytes (b :: bs) / 256 = natOfBytes bs := by rw [natOfBytes]; omega
    rw [List.length_cons, bytesOfNat, hlow, hrest, ih, BitVec.ofNat_toNat, BitVec.setWidth_eq]

theorem natOfBytes_bytesOfNat {n w : Nat} (hw : w < 2 ^ (8 * n)) : natOfBytes (bytesOfNat n w) = w := by
  induction n generalizing w with
  | zero =>
    obtain rfl : w = 0 := by simpa using hw
    rfl
  | succ n ih =>
    have hrest : w / 256 < 2 ^ (8 * n) := by
      rw [Nat.mul_succ, Nat.pow_add] at hw
      omega
    rw [bytesOfNat, natOfBytes, ih hrest, BitVec.toNat_ofNat]
    omega

/-! ### Records and words -/

/-- The fields of a word of a whole number of bytes: no bit of it is cut off. -/
theorem recordOfBits_of_lt {n w : Nat} (hw : w < 2 ^ (32 + 8 * n)) :
    recordOfBits (32 + 8 * n) w
      = ⟨BitVec.ofNat 8 (w % 256), BitVec.ofNat 8 (w / 2 ^ 8 % 256), BitVec.ofNat 16 (w / 2 ^ 16 % 65536),
          bytesOfNat n (w / 2 ^ 32)⟩ := by
  have hn : (32 + 8 * n - 32) / 8 = n := by omega
  rw [recordOfBits, Nat.mod_eq_of_lt hw, hn]

theorem recordWord_lt (r : Record) : recordWord r < 2 ^ recordBits r := by
  have hop : r.op.toNat < 2 ^ 8 := r.op.isLt
  have ha8 : r.a8.toNat < 2 ^ 8 := r.a8.isLt
  have ha16 : r.a16.toNat < 2 ^ 16 := r.a16.isLt
  have hpath := natOfBytes_lt r.path
  rw [recordWord, recordBits, Nat.pow_add]
  omega

/-- The layout loses nothing of a record. -/
theorem recordOfBits_recordWord (r : Record) : recordOfBits (recordBits r) (recordWord r) = r := by
  obtain ⟨op, a8, a16, path⟩ := r
  have hop : op.toNat < 2 ^ 8 := op.isLt
  have ha8 : a8.toNat < 2 ^ 8 := a8.isLt
  have ha16 : a16.toNat < 2 ^ 16 := a16.isLt
  rw [recordBits, recordOfBits_of_lt (recordWord_lt _), Record.mk.injEq]
  simp only [recordWord]
  refine ⟨BitVec.eq_of_toNat_eq ?_, BitVec.eq_of_toNat_eq ?_, BitVec.eq_of_toNat_eq ?_, ?_⟩
  · rw [BitVec.toNat_ofNat]; omega
  · rw [BitVec.toNat_ofNat]; omega
  · rw [BitVec.toNat_ofNat]; omega
  · have habove : (op.toNat + 2 ^ 8 * a8.toNat + 2 ^ 16 * a16.toNat + 2 ^ 32 * natOfBytes path) / 2 ^ 32
        = natOfBytes path := by omega
    rw [habove, bytesOfNat_natOfBytes]

/-- The layout loses nothing of a word of a whole number of bytes. -/
theorem recordWord_recordOfBits {n w : Nat} (hw : w < 2 ^ (32 + 8 * n)) :
    recordWord (recordOfBits (32 + 8 * n) w) = w := by
  have habove : w / 2 ^ 32 < 2 ^ (8 * n) := by
    rw [Nat.pow_add] at hw
    exact Nat.div_lt_of_lt_mul hw
  rw [recordOfBits_of_lt hw]
  simp only [recordWord, BitVec.toNat_ofNat, natOfBytes_bytesOfNat habove]
  omega

theorem recordBits_recordOfBits {n w : Nat} (hw : w < 2 ^ (32 + 8 * n)) :
    recordBits (recordOfBits (32 + 8 * n) w) = 32 + 8 * n := by
  rw [recordOfBits_of_lt hw, recordBits, bytesOfNat_length]

theorem decodeTableWord_eq_some {nbits w : Nat} {i : Instr} :
    decodeTableWord nbits w = some i ↔ decode (recordOfBits nbits w) = .instr i := by
  unfold decodeTableWord
  cases decode (recordOfBits nbits w) <;> simp

/-- Settles O8: the word gives the record back, and decoding undoes encoding. -/
theorem decodeOfEncodedWord : Obligations.DecodeOfEncodedWord := fun i => by
  rw [decodeTableWord_eq_some, recordOfBits_recordWord, decode_encode]

/-- Settles O9: the command's record is the one read from the word, and that record has the word and its bits. -/
theorem encodeOfDecodedWord : Obligations.EncodeOfDecodedWord := by
  intro n w i hw hdec
  rw [encode_of_decode (decodeTableWord_eq_some.mp hdec)]
  exact ⟨recordWord_recordOfBits hw, recordBits_recordOfBits hw⟩

/-! ### The opcode table -/

/-- Settles O1: each record is the encoding of its command. -/
theorem opcodeSelectsCommand : Obligations.OpcodeSelectsCommand := fun a8 a16 path =>
  ⟨decode_encode (.stop a8 a16 path), decode_encode (.play a8 a16 path), decode_encode (.setVolume a8 a16 path),
    decode_encode (.setPlayModel a8 a16 path), decode_encode (.setLoopCount a8 a16 path)⟩

/-- A byte alone is the opcode of a record whose other fields are 0 and whose path is empty (log entry 6). -/
theorem recordOfBits_byte (op : Byte) : recordOfBits 8 op.toNat = ⟨op, 0#8, 0#16, []⟩ := by
  have hop : op.toNat < 2 ^ 8 := op.isLt
  have hlow : op.toNat % 256 = op.toNat := by omega
  have ha8 : op.toNat / 2 ^ 8 % 256 = 0 := by omega
  have ha16 : op.toNat / 2 ^ 16 % 65536 = 0 := by omega
  simp only [recordOfBits, Nat.mod_eq_of_lt hop, hlow, ha8, ha16, BitVec.ofNat_toNat, BitVec.setWidth_eq]
  rfl

/-- The command of an opcode of the table, written as one byte. -/
theorem decodeTableWord_byte {op : Byte} {i : Instr} (h : encode i = ⟨op, 0#8, 0#16, []⟩) :
    decodeTableWord 8 op.toNat = some i := by
  rw [decodeTableWord_eq_some, recordOfBits_byte, ← h, decode_encode]

/-- R62: an opcode that is none of the five is answered by name. -/
theorem decode_of_illegal {r : Record}
    (h : r.op ∉ [opStop, opPlay, opSetVolume, opSetPlayModel, opSetLoopCount]) :
    decode r = .illegalOpcode r.op := by
  cases hd : decode r with
  | illegalOpcode op => rw [(decode_illegal hd).1]
  | instr i =>
    rw [← encode_of_decode hd] at h
    cases i <;> simp [encode] at h

/-- Settles O2: the five words are the opcodes of the table, each the encoding of its command, and the sixth is the
opcode of none. -/
theorem tableWordsDecode : Obligations.TableWordsDecode := by
  refine ⟨decodeTableWord_byte (op := opStop) rfl, decodeTableWord_byte (op := opPlay) rfl,
    decodeTableWord_byte (op := opSetVolume) rfl, decodeTableWord_byte (op := opSetPlayModel) rfl,
    decodeTableWord_byte (op := opSetLoopCount) rfl, ?_⟩
  have hill : decode ⟨0x02#8, 0#8, 0#16, []⟩ = .illegalOpcode 0x02#8 := decode_of_illegal (by decide)
  rw [decodeTableWord, show (0b00000010 : Nat) = (0x02#8).toNat from rfl, recordOfBits_byte, hill]

/-! ### Fields a command does not read -/

theorem expectedFrame_encode (p : Params) (i : Instr) :
    expectedFrame p (encode i) = if validate p (encode i) = none then frame i else [] := by
  unfold expectedFrame
  rw [decode_encode]
  cases validate p (encode i) <;> rfl

theorem expectedFrame_illegal {p : Params} {r : Record} {op : Byte} (h : decode r = .illegalOpcode op) :
    expectedFrame p r = [] := by
  unfold expectedFrame
  rw [validate_illegal h]

/-- R63: what is expected of a command depends on its check and its payload only. -/
theorem expectations_congr {p : Params} {i j : Instr} (hv : validate p (encode i) = validate p (encode j))
    (hf : frame i = frame j) :
    validate p (encode i) = validate p (encode j) ∧ expectedFrame p (encode i) = expectedFrame p (encode j) :=
  ⟨hv, by rw [expectedFrame_encode, expectedFrame_encode, hv, hf]⟩

/-- Settles O4, command by command: neither the check nor the payload of a command names a field R63 does not list. -/
theorem unlistedFieldsIgnored : Obligations.UnlistedFieldsIgnored := by
  rintro p r ⟨op', a8', a16', path'⟩ rfl ha8 ha16 hpath
  cases hd : decode r with
  | illegalOpcode op =>
    have hd' := decode_of_illegal (r := ⟨r.op, a8', a16', path'⟩) (decode_illegal hd).2
    rw [validate_illegal hd, validate_illegal hd', expectedFrame_illegal hd, expectedFrame_illegal hd']
    exact ⟨rfl, rfl⟩
  | instr i =>
    obtain rfl := encode_of_decode hd
    cases i with
    | stop a8 a16 path =>
      exact expectations_congr (j := .stop a8' a16' path') (by rw [validate_encode, validate_encode]) rfl
    | play a8 a16 path =>
      obtain rfl : path = path' := hpath rfl
      exact expectations_congr (j := .play a8' a16' path) (by rw [validate_encode, validate_encode]) rfl
    | setVolume a8 a16 path =>
      obtain rfl : a8 = a8' := ha8 (.inr rfl)
      exact expectations_congr (j := .setVolume a8 a16' path') (by rw [validate_encode, validate_encode]) rfl
    | setPlayModel a8 a16 path =>
      obtain rfl : a8 = a8' := ha8 (.inl rfl)
      exact expectations_congr (j := .setPlayModel a8 a16' path') (by rw [validate_encode, validate_encode]) rfl
    | setLoopCount a8 a16 path =>
      obtain rfl : a16 = a16' := ha16 rfl
      exact expectations_congr (j := .setLoopCount a8' a16 path') (by rw [validate_encode, validate_encode]) rfl

end Sys2Proof.Machine

/-! SUPPORT. The frame as a list, and the steps that answer what the opcode table does not hold (O5, O6, O7, O3, O57). -/

namespace Sys2Proof.Machine

/-! ### The frame as a list -/

/-- R64: start byte, opcode, payload, checksum. -/
theorem frame_eq_cons (i : Instr) :
    frame i = Config.startByte :: (encode i).op :: (payload i ++ [checksum (body i)]) := rfl

/-- R66: three bytes of a frame are not payload. -/
theorem payload_length (i : Instr) : (payload i).length + 3 = frameLen i := by
  rw [← frame_length, frame_eq_cons]
  simp

theorem frame_drop_take_payload (i : Instr) : ((frame i).drop 2).take (frameLen i - 3) = payload i := by
  rw [frame_eq_cons]
  exact List.take_left' (by have := payload_length i; omega)

/-- R64, R91: the bytes before the checksum are the body. -/
theorem frame_take_body (i : Instr) : (frame i).take (frameLen i - 1) = body i := by
  rw [frame_eq_body]
  exact List.take_left' (by have := body_length i; omega)

/-- Settles O5: the bytes are read off the frame as a list, and the checksum is the sum of the body. -/
theorem frameLayout : Obligations.FrameLayout := by
  rintro i _ rfl
  rw [frame_length]
  refine ⟨rfl, rfl, frame_drop_take_payload i, checksum (body i), frame_last i, ?_⟩
  rw [frame_take_body, checksum_toNat, byteSum_eq_sum]

/-- Settles O6: the length of the frame is `FrameLen`, which is the table. -/
theorem frameLengthTable : Obligations.FrameLengthTable := fun _ _ _ =>
  ⟨frame_length _, frame_length _, frame_length _, frame_length _, frame_length _, frame_length⟩

/-- R64: the first byte of the payload is the byte at index 2. -/
theorem frame_two {i : Instr} {b : Byte} {bs : List Byte} (h : payload i = b :: bs) : (frame i)[2]? = some b := by
  rw [frame_eq_cons, h]
  rfl

/-- R67, R68: a payload of a count byte `n` and `n` more bytes tells the frame's length. -/
theorem frame_count {i : Instr} {n : Nat} {b : Byte} {bs : List Byte} (hpayload : payload i = b :: bs)
    (hcount : b.toNat = n) (hlen : bs.length = n) :
    ∃ b, (frame i)[2]? = some b ∧ b.toNat + 1 = (payload i).length ∧ (frame i).length = 4 + b.toNat
      ∧ b.toNat = n := by
  have hlen' : (payload i).length = n + 1 := by rw [hpayload, List.length_cons, hlen]
  refine ⟨b, frame_two hpayload, by omega, ?_, hcount⟩
  rw [frame_length, ← payload_length]
  omega

/-- R143: a `play` path that passes validation fits in 254 bytes. -/
theorem path_length_of_valid {p : Params} {a8 : Byte} {a16 : Half} {path : List Byte}
    (h : validate p (encode (.play a8 a16 path)) = none) : path.length ≤ 254 := by
  rw [validate_encode] at h
  simp only [checkPath] at h
  split_ifs at h with hlong
  exact Nat.le_of_not_lt hlong

/-- R87: a path that fits in 254 bytes has a length byte that does not wrap. -/
theorem playLengthByte_toNat {path : List Byte} (h : path.length ≤ 254) :
    (playLengthByte path).toNat = path.length + 1 := by
  rw [playLengthByte, BitVec.toNat_ofNat]
  omega

/-- Settles O7, command by command: the first payload byte is a constant count, or for `play` the length byte, which
counts the disk source and a validated path without wrapping. -/
theorem countByteTellsFrameLength : Obligations.CountByteTellsFrameLength := by
  intro p i hvalid
  cases i with
  | stop => exact frame_count rfl rfl rfl
  | play a8 a16 path =>
    have hcount := playLengthByte_toNat (path_length_of_valid hvalid)
    exact frame_count (bs := diskSourceByte .flash :: encodePath path) rfl hcount (by simp)
  | setVolume => exact frame_count rfl rfl rfl
  | setPlayModel => exact frame_count rfl rfl rfl
  | setLoopCount => exact frame_count rfl rfl rfl

/-! ### What the opcode table does not hold -/

/-- R62: the ranges of the opcodes that select no command. -/
theorem illegal_ranges (op : Byte) :
    (op ≤ 0x03#8 ∨ (0x05#8 ≤ op ∧ op ≤ 0x07#8) ∨ (0x09#8 ≤ op ∧ op ≤ 0x12#8)
      ∨ (0x14#8 ≤ op ∧ op ≤ 0x17#8) ∨ 0x1A#8 ≤ op)
    ↔ op ∉ [0x04#8, 0x08#8, 0x13#8, 0x18#8, 0x19#8] := by
  simp only [List.mem_cons, List.not_mem_nil, or_false, not_or]
  bv_omega

/-- Settles O3: the acceptance of such a record takes the encoding error of its opcode, which writes the response
and ST only. -/
theorem illegalOpcodeRejected : Obligations.IllegalOpcodeRejected := by
  refine ⟨illegal_ranges, fun inp s hop hst hrst hvalid hpres => ?_⟩
  rw [portStep_accept hrst hst hvalid, acceptRecord_presentable hpres,
    validate_illegal (decode_of_illegal hop), accept_invalid _ _ hst]
  rfl

/-- R66: an opcode that is none of the five selects no layout. -/
theorem latchedInstr_of_illegal {s : State}
    (h : s.lop ∉ [opStop, opPlay, opSetVolume, opSetPlayModel, opSetLoopCount]) :
    s.latchedInstr = .error .noLayout := by
  refine latchedInstr_noLayout.mpr fun i hdec => ?_
  rw [decode_of_illegal (r := s.latchedRecord) h] at hdec
  contradiction

/-- R66: `FrameLen` of a `play` path of more than 254 bytes is undefined. -/
theorem latchedInstr_of_long_path {s : State} (hop : s.lop = opPlay) (hlen : 254 < s.lpath.length) :
    s.latchedInstr = .error .noLayout := by
  refine latchedInstr_noLayout.mpr fun i hdec => ?_
  have hplay : decode s.latchedRecord = .instr (.play s.la8 s.la16 s.lpath) := by
    rw [State.latchedRecord, hop]
    exact decode_encode (.play s.la8 s.la16 s.lpath)
  obtain rfl : _ = i := Decoded.instr.inj (hplay.symm.trans hdec)
  simp only [frameLen, Config.frameMax, Config.pathMax]
  omega

theorem sinkAccept_fault {s : State} {f : Fault} (hst : s.st = .emit) (hf : s.latchedInstr = .error f) :
    sinkAccept s = .fault f := by
  simp [sinkAccept, hst, hf]

/-- Settles O57: in EMIT the sink's acceptance reads the latches, and Reset leaves 0x00 as their opcode, which is none
of the five. -/
theorem absentLatchReadFaults : Obligations.AbsentLatchReadFaults := by
  intro inp s hrst herr hready
  refine ⟨?_, fun hst hlatch => ?_⟩
  · rw [portStep_sinkAccept hrst rfl herr hready]
    exact sinkAccept_fault rfl (latchedInstr_of_illegal (show 0x00#8 ∉ _ by decide))
  · rw [portStep_sinkAccept hrst hst herr hready]
    apply sinkAccept_fault hst
    rcases hlatch with hop | ⟨hop, hlen⟩
    · exact latchedInstr_of_illegal hop
    · exact latchedInstr_of_long_path hop hlen

end Sys2Proof.Machine

/-! SUPPORT. The text form of commands (R73): what the reader makes of the numbers and paths the writer writes, and of
the lines of the mnemonics and of `.cmd` (O10, O11). -/

namespace Sys2Proof.Machine

/-! ### Words of a line -/

/-- A character that is part of a word. -/
def isWordChar (c : Char) : Bool := !decide (c = ' ' ∨ c = ';')

/-- A word ends at a space, at a comment, and at the end of the line. -/
def endsWord : List Char → Bool
  | [] => true
  | c :: _ => !isWordChar c

theorem takeWord_append {w rest : List Char} (hw : ∀ c ∈ w, isWordChar c = true) (hrest : endsWord rest = true) :
    takeWord (w ++ rest) = (w, rest) := by
  induction w with
  | nil =>
    cases rest with
    | nil => rfl
    | cons c cs =>
      have hc : c = ' ' ∨ c = ';' := by simpa [endsWord, isWordChar, imp_iff_not_or] using hrest
      exact if_pos hc
  | cons c w ih =>
    obtain ⟨hc, hw⟩ := List.forall_mem_cons.mp hw
    have hc : ¬ (c = ' ' ∨ c = ';') := by simpa [isWordChar] using hc
    rw [List.cons_append, takeWord, if_neg hc, ih hw]

theorem readNumber_append {d m n : Nat} {w rest : List Char} (hw : ∀ c ∈ w, isWordChar c = true)
    (hn : numeral d m w = some n) (hrest : endsWord rest = true) :
    readNumber d m (w ++ rest) = some (n, rest) := by
  simp only [readNumber, takeWord_append hw hrest, hn]

/-! ### Hexadecimal numbers -/

theorem hexDigit_hexChar {n : Nat} (h : n < 16) : hexDigit (hexChar n) = some n := by
  interval_cases n <;> rfl

theorem isWordChar_hexChar {n : Nat} (h : n < 16) : isWordChar (hexChar n) = true := by
  interval_cases n <;> rfl

/-- Each half of a byte is the value of one hexadecimal digit. -/
theorem byte_halves_lt (b : Byte) : b.toNat / 16 < 16 ∧ b.toNat % 16 < 16 := by
  have hb : b.toNat < 256 := b.isLt
  omega

theorem isWordChar_hexByte (b : Byte) : ∀ c ∈ hexByte b, isWordChar c = true := by
  obtain ⟨hhigh, hlow⟩ := byte_halves_lt b
  simp [hexByte, isWordChar_hexChar hhigh, isWordChar_hexChar hlow]

/-- Reading the two digits of a byte puts the byte below the digits already read. -/
theorem digitsValue_hexByte (acc : Nat) (b : Byte) (cs : List Char) :
    digitsValue 16 hexDigit acc (hexByte b ++ cs) = digitsValue 16 hexDigit (256 * acc + b.toNat) cs := by
  obtain ⟨hhigh, hlow⟩ := byte_halves_lt b
  have hval : 16 * (16 * acc + b.toNat / 16) + b.toNat % 16 = 256 * acc + b.toNat := by omega
  simp only [hexByte, List.cons_append, List.nil_append, digitsValue, hexDigit_hexChar hhigh,
    hexDigit_hexChar hlow, hval]

/-- R73: a hexadecimal number, `0x` and its digits, as the `.cmd` line holds it. -/
def hexNumber (digits : List Char) : List Char := '0' :: 'x' :: digits

/-- The four digits of a 16-bit count, high byte first. -/
def hexHalf (count : Half) : List Char := hexByte (countHigh count) ++ hexByte (countLow count)

theorem isWordChar_hexNumber {digits : List Char} (h : ∀ c ∈ digits, isWordChar c = true) :
    ∀ c ∈ hexNumber digits, isWordChar c = true := by
  simp only [hexNumber, List.forall_mem_cons]
  exact ⟨rfl, rfl, h⟩

theorem numeral_hexNumber {d max : Nat} {digits : List Char} (h : digits.length = d) :
    numeral d max (hexNumber digits) = digitsValue 16 hexDigit 0 digits :=
  if_pos h

theorem numeral_hexByte (b : Byte) : numeral 2 255 (hexNumber (hexByte b)) = some b.toNat := by
  calc numeral 2 255 (hexNumber (hexByte b))
      = digitsValue 16 hexDigit 0 (hexByte b ++ []) :=
        numeral_hexNumber (show (hexByte b).length = 2 from rfl)
    _ = some (256 * 0 + b.toNat) := digitsValue_hexByte 0 b []
    _ = some b.toNat := by rw [Nat.mul_zero, Nat.zero_add]

/-- R89: the two bytes of a count make it up again. -/
theorem count_of_bytes (count : Half) : 256 * (countHigh count).toNat + (countLow count).toNat = count.toNat := by
  simp only [countHigh, countLow, BitVec.extractLsb'_toNat, Nat.shiftRight_eq_div_pow]
  omega

theorem numeral_hexHalf (count : Half) : numeral 4 65535 (hexNumber (hexHalf count)) = some count.toNat := by
  calc numeral 4 65535 (hexNumber (hexHalf count))
      = digitsValue 16 hexDigit 0 (hexByte (countHigh count) ++ (hexByte (countLow count) ++ [])) :=
        numeral_hexNumber (show (hexHalf count).length = 4 from rfl)
    _ = some (256 * (256 * 0 + (countHigh count).toNat) + (countLow count).toNat) := by
        rw [digitsValue_hexByte, digitsValue_hexByte, digitsValue]
    _ = some count.toNat := by rw [Nat.mul_zero, Nat.zero_add, count_of_bytes]

theorem readNumber_hexByte (b : Byte) {rest : List Char} (hrest : endsWord rest = true) :
    readNumber 2 255 (hexNumber (hexByte b) ++ rest) = some (b.toNat, rest) :=
  readNumber_append (isWordChar_hexNumber (isWordChar_hexByte b)) (numeral_hexByte b) hrest

theorem readNumber_hexHalf (count : Half) {rest : List Char} (hrest : endsWord rest = true) :
    readNumber 4 65535 (hexNumber (hexHalf count) ++ rest) = some (count.toNat, rest) :=
  readNumber_append
    (isWordChar_hexNumber (List.forall_mem_append.mpr ⟨isWordChar_hexByte _, isWordChar_hexByte _⟩))
    (numeral_hexHalf count) hrest

/-! ### Quoted paths -/

/-- R73: a path, every byte of it as `\xHH`. -/
def hexPath (path : List Byte) : List Char := path.flatMap fun b => '\\' :: 'x' :: hexByte b

theorem readQuoted_hexByte {cs rest : List Char} {bs : List Byte} (b : Byte) (h : readQuoted cs = some (bs, rest)) :
    readQuoted ('\\' :: 'x' :: hexByte b ++ cs) = some (b :: bs, rest) := by
  obtain ⟨hhigh, hlow⟩ := byte_halves_lt b
  have hval : 16 * (b.toNat / 16) + b.toNat % 16 = b.toNat := by omega
  simp [hexByte, readQuoted, hexDigit_hexChar hhigh, hexDigit_hexChar hlow, h, hval]

theorem readQuoted_hexPath (path : List Byte) (rest : List Char) :
    readQuoted (hexPath path ++ '"' :: rest) = some (path, rest) := by
  induction path with
  | nil => rfl
  | cons b path ih =>
    have h := readQuoted_hexByte b ih
    rwa [← List.append_assoc] at h

theorem readPath_hexPath (path : List Byte) : readPath ('"' :: (hexPath path ++ ['"'])) = some (path, []) :=
  readQuoted_hexPath path []

/-! ### Lines -/

theorem closeLine_some {α : Type} {mk : α → Record} {x : α} : closeLine mk (some (x, [])) = some (.command (mk x)) :=
  rfl

theorem parseLine_play (cs : List Char) :
    parseLine (['p', 'l', 'a', 'y', ' '] ++ cs)
      = closeLine (fun path => ⟨opPlay, 0#8, 0#16, path⟩) (readPath (dropSpaces cs)) := rfl

theorem parseLine_setVolume (cs : List Char) :
    parseLine (['s', 'e', 't', 'V', 'o', 'l', 'u', 'm', 'e', ' '] ++ cs)
      = closeLine (fun n => ⟨opSetVolume, BitVec.ofNat 8 n, 0#16, []⟩) (readNumber 2 255 (dropSpaces cs)) := rfl

theorem parseLine_setPlayModel (cs : List Char) :
    parseLine (['s', 'e', 't', 'P', 'l', 'a', 'y', 'M', 'o', 'd', 'e', 'l', ' '] ++ cs)
      = closeLine (fun n => ⟨opSetPlayModel, BitVec.ofNat 8 n, 0#16, []⟩) (readModel (dropSpaces cs)) := rfl

theorem parseLine_setLoopCount (cs : List Char) :
    parseLine (['s', 'e', 't', 'L', 'o', 'o', 'p', 'C', 'o', 'u', 'n', 't', ' '] ++ cs)
      = closeLine (fun n => ⟨opSetLoopCount, 0#8, BitVec.ofNat 16 n, []⟩) (readNumber 4 65535 (dropSpaces cs)) := rfl

theorem parseLine_cmd (cs : List Char) :
    parseLine (['.', 'c', 'm', 'd', ' '] ++ cs) = closeLine id (readCmd (dropSpaces cs)) := rfl

theorem dropSpaces_hexNumber (digits rest : List Char) :
    dropSpaces (hexNumber digits ++ rest) = hexNumber digits ++ rest := rfl

/-- A hexadecimal byte is the name of no model. -/
theorem readModel_hexByte (b : Byte) : readModel (hexNumber (hexByte b) ++ []) = some (b.toNat, []) := by
  have hword : takeWord (hexNumber (hexByte b) ++ []) = (hexNumber (hexByte b), []) :=
    takeWord_append (isWordChar_hexNumber (isWordChar_hexByte b)) rfl
  have hname : playModelNames.find? (fun e => decide (e.1 = hexNumber (hexByte b))) = none := rfl
  rw [readModel, hword, hname]
  exact readNumber_hexByte b rfl

/-! ### The lines of the mnemonics -/

theorem parseLine_setVolume_hexByte (b : Byte) :
    parseLine ("setVolume 0x".toList ++ hexByte b) = some (.command ⟨opSetVolume, b, 0#16, []⟩) := by
  have hline : "setVolume 0x".toList ++ hexByte b
      = ['s', 'e', 't', 'V', 'o', 'l', 'u', 'm', 'e', ' '] ++ (hexNumber (hexByte b) ++ []) := rfl
  rw [hline, parseLine_setVolume, dropSpaces_hexNumber, readNumber_hexByte b rfl, closeLine_some,
    BitVec.ofNat_toNat, BitVec.setWidth_eq]

theorem parseLine_setPlayModel_hexByte (b : Byte) :
    parseLine ("setPlayModel 0x".toList ++ hexByte b) = some (.command ⟨opSetPlayModel, b, 0#16, []⟩) := by
  have hline : "setPlayModel 0x".toList ++ hexByte b
      = ['s', 'e', 't', 'P', 'l', 'a', 'y', 'M', 'o', 'd', 'e', 'l', ' '] ++ (hexNumber (hexByte b) ++ []) := rfl
  rw [hline, parseLine_setPlayModel, dropSpaces_hexNumber, readModel_hexByte, closeLine_some,
    BitVec.ofNat_toNat, BitVec.setWidth_eq]

theorem parseLine_setLoopCount_hexHalf (count : Half) :
    parseLine ("setLoopCount 0x".toList ++ hexByte (countHigh count) ++ hexByte (countLow count))
      = some (.command ⟨opSetLoopCount, 0#8, count, []⟩) := by
  have hline : "setLoopCount 0x".toList ++ hexByte (countHigh count) ++ hexByte (countLow count)
      = ['s', 'e', 't', 'L', 'o', 'o', 'p', 'C', 'o', 'u', 'n', 't', ' '] ++ (hexNumber (hexHalf count) ++ []) := rfl
  rw [hline, parseLine_setLoopCount, dropSpaces_hexNumber, readNumber_hexHalf count rfl, closeLine_some,
    BitVec.ofNat_toNat, BitVec.setWidth_eq]

theorem parseLine_play_hexPath (path : List Byte) :
    parseLine ("play \"".toList ++ path.flatMap (fun c => "\\x".toList ++ hexByte c) ++ "\"".toList)
      = some (.command ⟨opPlay, 0#8, 0#16, path⟩) := by
  have hline : "play \"".toList ++ path.flatMap (fun c => "\\x".toList ++ hexByte c) ++ "\"".toList
      = ['p', 'l', 'a', 'y', ' '] ++ ('"' :: (hexPath path ++ ['"'])) := rfl
  rw [hline, parseLine_play]
  exact congrArg (closeLine _) (readPath_hexPath path)

/-- Settles O11, line by line: a line with an operand by the reading of that operand, the fixed lines by running the
reader. -/
theorem mnemonicsWriteTheirField : Obligations.MnemonicsWriteTheirField := fun b count =>
  ⟨by decide, parseLine_setVolume_hexByte b, parseLine_setPlayModel_hexByte b, parseLine_setLoopCount_hexHalf count,
    by decide, by decide, by decide, parseLine_play_hexPath⟩

/-! ### The `.cmd` line -/

theorem readField_present {α : Type} {key cs rest : List Char} {read : List Char → Option (α × List Char)} {absent : α}
    (h : expect key (dropSpaces cs) = some rest) : readField key read absent cs = read rest := by
  rw [readField, h]

/-- R73: the path field of the `.cmd` line, up to the line's end. -/
def pathField (path : List Byte) : List Char := [' ', 'p', 'a', 't', 'h', '='] ++ '"' :: (hexPath path ++ ['"'])

/-- R73: the fields of the `.cmd` line from `a16` on. -/
def a16Fields (r : Record) : List Char := [' ', 'a', '1', '6', '='] ++ (hexNumber (hexHalf r.a16) ++ pathField r.path)

/-- R73: the fields of the `.cmd` line from `a8` on. -/
def a8Fields (r : Record) : List Char := [' ', 'a', '8', '='] ++ (hexNumber (hexByte r.a8) ++ a16Fields r)

/-- The `.cmd` line, field by field. -/
theorem cmdLine_eq (r : Record) :
    cmdLine r = ['.', 'c', 'm', 'd', ' '] ++ (['o', 'p', '='] ++ (hexNumber (hexByte r.op) ++ a8Fields r)) := by
  simp [cmdLine, hexNumber, hexHalf, hexPath, pathField, a16Fields, a8Fields]

theorem readField_a8Fields (r : Record) :
    readField ['a', '8', '='] (readNumber 2 255) 0 (a8Fields r) = some (r.a8.toNat, a16Fields r) :=
  (readField_present rfl).trans (readNumber_hexByte r.a8 rfl)

theorem readField_a16Fields (r : Record) :
    readField ['a', '1', '6', '='] (readNumber 4 65535) 0 (a16Fields r) = some (r.a16.toNat, pathField r.path) :=
  (readField_present rfl).trans (readNumber_hexHalf r.a16 rfl)

theorem readField_pathField (path : List Byte) :
    readField ['p', 'a', 't', 'h', '='] readPath [] (pathField path) = some (path, []) :=
  (readField_present rfl).trans (readPath_hexPath path)

theorem readCmd_fields (r : Record) :
    readCmd (['o', 'p', '='] ++ (hexNumber (hexByte r.op) ++ a8Fields r)) = some (r, []) := by
  have hop : expect ['o', 'p', '='] (dropSpaces (['o', 'p', '='] ++ (hexNumber (hexByte r.op) ++ a8Fields r)))
      = some (hexNumber (hexByte r.op) ++ a8Fields r) := rfl
  have hends : endsWord (a8Fields r) = true := rfl
  simp only [readCmd, hop, readNumber_hexByte r.op hends, readField_a8Fields, readField_a16Fields,
    readField_pathField, BitVec.ofNat_toNat, BitVec.setWidth_eq]

/-- Settles O10: the reader takes the line apart into the fields the writer put together. -/
theorem cmdLineWritesEveryRecord : Obligations.CmdLineWritesEveryRecord := fun r => by
  rw [cmdLine_eq, parseLine_cmd]
  exact congrArg (closeLine id) (readCmd_fields r)

end Sys2Proof.Machine

/-! SUPPORT. Sums, path encoding and the two-byte split as arithmetic (O12, O13, O15, O16, O18, O19). -/

namespace Sys2Proof.Machine

/-! ### The checksum as a running sum -/

/-- R80, R93: adding one byte at a time, from the left, is the checksum. -/
theorem checksum_eq_foldl (bs : List Byte) : checksum bs = bs.foldl accStep 0#8 := by
  induction bs using List.reverseRecOn with
  | nil => rfl
  | append_singleton bs b ih => rw [checksum_snoc, ih, List.foldl_append]; rfl

/-- Settles O12: the sum over the naturals is the model's, and the running sum takes one more byte as the checksum
does. -/
theorem checksumIsRunningSum : Obligations.ChecksumIsRunningSum := fun bs =>
  ⟨by rw [checksum_toNat, byteSum_eq_sum], checksum_eq_foldl bs⟩

/-! ### Path encoding of one byte -/

theorem encodePathChar_dot : encodePathChar 0x2E#8 = 0x2A#8 := rfl

/-- R85: a lower-case letter loses 0x20; `.` is none. -/
theorem encodePathChar_lower {c : Byte} (h : 0x61#8 ≤ c ∧ c ≤ 0x7A#8) : encodePathChar c = c - 0x20#8 := by
  have hdot : c ≠ 0x2E#8 := by bv_omega
  rw [encodePathChar, if_neg hdot, if_pos h]

theorem encodePathChar_other {c : Byte} (hdot : c ≠ 0x2E#8) (h : ¬ (0x61#8 ≤ c ∧ c ≤ 0x7A#8)) :
    encodePathChar c = c := by
  rw [encodePathChar, if_neg hdot, if_neg h]

/-- R85: the three cases, of which every byte is in exactly one. -/
theorem encodePathChar_cases (c : Byte) :
    (c = 0x2E#8 ∧ encodePathChar c = 0x2A#8)
    ∨ ((0x61#8 ≤ c ∧ c ≤ 0x7A#8) ∧ encodePathChar c = c - 0x20#8)
    ∨ ((c ≠ 0x2E#8 ∧ ¬ (0x61#8 ≤ c ∧ c ≤ 0x7A#8)) ∧ encodePathChar c = c) := by
  by_cases hdot : c = 0x2E#8
  · exact .inl ⟨hdot, hdot ▸ encodePathChar_dot⟩
  · by_cases hlower : 0x61#8 ≤ c ∧ c ≤ 0x7A#8
    · exact .inr (.inl ⟨hlower, encodePathChar_lower hlower⟩)
    · exact .inr (.inr ⟨⟨hdot, hlower⟩, encodePathChar_other hdot hlower⟩)

/-- Settles O13, case by case of R85; a lower-case letter is far enough above 0 for the subtraction not to wrap. -/
theorem pathCharCases : Obligations.PathCharCases := by
  intro c
  refine ⟨fun hdot => hdot ▸ encodePathChar_dot, fun hlower => ?_, encodePathChar_other⟩
  rw [encodePathChar_lower (show 0x61#8 ≤ c ∧ c ≤ 0x7A#8 from hlower)]
  bv_omega

/-- R97: `*`, an upper-case letter and a byte that is unchanged are all in the third case of R85. -/
theorem encodePathChar_idempotent (c : Byte) : encodePathChar (encodePathChar c) = encodePathChar c := by
  rcases encodePathChar_cases c with ⟨-, he⟩ | ⟨hlower, he⟩ | ⟨⟨hdot, hother⟩, he⟩ <;> rw [he]
  · rfl
  · exact encodePathChar_other (by bv_omega) (by bv_omega)
  · exact he

/-- Settles O18, byte by byte. -/
theorem pathEncodingIdempotent : Obligations.PathEncodingIdempotent := fun path => by
  simp only [encodePath, List.map_map]
  exact List.map_congr_left fun c _ => encodePathChar_idempotent c

/-! ### Bytes that encode alike -/

/-- R98: bytes that encode alike are equal, or one of them is the other's encoding: no two of the bytes that path
encoding changes have the same encoding. -/
theorem encodePathChar_eq_iff (c d : Byte) :
    encodePathChar c = encodePathChar d ↔
      (c = d ∨ (c = 0x2E#8 ∧ d = 0x2A#8) ∨ (c = 0x2A#8 ∧ d = 0x2E#8)
        ∨ (0x61#8 ≤ c ∧ c ≤ 0x7A#8 ∧ d = c - 0x20#8) ∨ (0x61#8 ≤ d ∧ d ≤ 0x7A#8 ∧ c = d - 0x20#8)) := by
  constructor
  · intro h
    rcases encodePathChar_cases c with ⟨hc, he⟩ | ⟨hc, he⟩ | ⟨hc, he⟩ <;>
      rcases encodePathChar_cases d with ⟨hd, he'⟩ | ⟨hd, he'⟩ | ⟨hd, he'⟩ <;>
      rw [he, he'] at h <;> bv_omega
  · rintro (rfl | ⟨rfl, rfl⟩ | ⟨rfl, rfl⟩ | ⟨hlow, hhigh, rfl⟩ | ⟨hlow, hhigh, rfl⟩)
    · rfl
    · rfl
    · rfl
    · rw [← encodePathChar_lower ⟨hlow, hhigh⟩, encodePathChar_idempotent]
    · rw [← encodePathChar_lower ⟨hlow, hhigh⟩, encodePathChar_idempotent]

/-- R90, R91: the frame of `play` reads the path's length and its encoding only. -/
theorem frame_play_congr (a8 : Byte) (a16 : Half) {path path' : List Byte} (hlen : path.length = path'.length)
    (henc : encodePath path = encodePath path') : frame (.play a8 a16 path) = frame (.play a8 a16 path') := by
  have hbody : body (.play a8 a16 path) = body (.play a8 a16 path') := by
    rw [body_play, body_play, playLengthByte, playLengthByte, hlen, henc]
  rw [frame_eq_body, frame_eq_body, hbody]

/-- Two paths of one length whose bytes encode alike at each position have the same encoding. -/
theorem encodePath_congr {path path' : List Byte} (hlen : path.length = path'.length)
    (h : ∀ k < path.length, (path[k]?).map encodePathChar = (path'[k]?).map encodePathChar) :
    encodePath path = encodePath path' := by
  refine List.ext_getElem? fun k => ?_
  rw [encodePath_getElem?, encodePath_getElem?]
  by_cases hk : k < path.length
  · exact h k hk
  · rw [List.getElem?_eq_none (by omega), List.getElem?_eq_none (by omega)]

/-- Settles O19: which bytes encode alike follows from the three cases of R85, and the frame sees the encoding only. -/
theorem aliasedPathsSameFrame : Obligations.AliasedPathsSameFrame :=
  ⟨encodePathChar_eq_iff, fun a8 a16 _ _ hlen h => frame_play_congr a8 a16 hlen (encodePath_congr hlen h)⟩

/-! ### The length byte and the loop count -/

/-- Settles O15: the check of `play` bounds the path, and then its length byte does not wrap. -/
theorem playLengthByteDoesNotWrap : Obligations.PlayLengthByteDoesNotWrap := by
  intro p a8 a16 path hcheck
  have hlen : path.length ≤ 254 := path_length_of_valid (a8 := a8) (a16 := a16) ((validate_encode p _).trans hcheck)
  exact ⟨playLengthByte path, rfl, playLengthByte_toNat hlen, rfl⟩

theorem countHigh_toNat (count : Half) : (countHigh count).toNat = count.toNat / 256 := by
  have hcount := count_of_bytes count
  have hlow : (countLow count).toNat < 256 := (countLow count).isLt
  omega

theorem countLow_toNat (count : Half) : (countLow count).toNat = count.toNat % 256 := by
  have hcount := count_of_bytes count
  have hlow : (countLow count).toNat < 256 := (countLow count).isLt
  omega

/-- The mask 0xFF keeps the bits that narrowing to a byte keeps. -/
theorem setWidth_and_lowByte (x : Half) : (x &&& 0xFF#16).setWidth 8 = x.setWidth 8 := by
  have hmask : (0xFF#16).setWidth 8 = BitVec.allOnes 8 := rfl
  rw [BitVec.setWidth_and, hmask, BitVec.and_allOnes]

/-- R89: under either kind of right shift by 8 the low byte is `count[15:8]`; the bits a shift fills in lie above it. -/
theorem setWidth_sshiftRight_eq (count : Half) : (count.sshiftRight 8).setWidth 8 = (count >>> 8).setWidth 8 := by
  ext k hk
  have hk16 : k < 16 := by omega
  have hbit : 8 + k < 16 := by omega
  rw [BitVec.getElem_setWidth, BitVec.getElem_setWidth, BitVec.getLsbD_sshiftRight, BitVec.getLsbD_ushiftRight]
  simp [hk16, hbit]

theorem countHigh_eq_ushiftRight (count : Half) : countHigh count = (count >>> 8).setWidth 8 :=
  BitVec.setWidth_ushiftRight_eq_extractLsb.symm

theorem countLow_eq_setWidth (count : Half) : countLow count = count.setWidth 8 := by
  ext k hk
  simp [countLow]

/-- Settles O16: after the mask both shifts narrow to the same byte, and the frame's payload has the high byte first. -/
theorem loopCountSplitShifted : Obligations.LoopCountSplitShifted := by
  intro a8 count path
  rw [setWidth_and_lowByte, setWidth_and_lowByte, setWidth_and_lowByte, setWidth_sshiftRight_eq]
  exact ⟨countHigh_toNat count, countLow_toNat count, countHigh_eq_ushiftRight count, countHigh_eq_ushiftRight count,
    countLow_eq_setWidth count, rfl, rfl⟩

end Sys2Proof.Machine

/-! SUPPORT. What a change of one byte does to a checksum, and so to a frame (O20). -/

namespace Sys2Proof.Machine

/-- The sum with one byte replaced: the old byte goes out and the new one comes in. -/
theorem byteSum_set {bs : List Byte} {k : Nat} {a : Byte} (b : Byte) (h : bs[k]? = some a) :
    byteSum (bs.set k b) + a.toNat = byteSum bs + b.toNat := by
  induction bs generalizing k with
  | nil => simp at h
  | cons c bs ih =>
    cases k with
    | zero =>
      obtain rfl : c = a := by simpa using h
      simp only [List.set_cons_zero, byteSum]
      omega
    | succ k =>
      have hrest := ih (k := k) (by simpa using h)
      simp only [List.set_cons_succ, byteSum]
      omega

/-- R99: two bytes are less than 256 apart, so the sums mod 256 differ where the bytes do. -/
theorem checksum_set_ne {bs : List Byte} {k : Nat} {b : Byte} (hk : k < bs.length) (h : bs[k]? ≠ some b) :
    checksum (bs.set k b) ≠ checksum bs := by
  intro heq
  obtain ⟨a, ha⟩ : ∃ a, bs[k]? = some a := ⟨_, List.getElem?_eq_getElem hk⟩
  have hsum := byteSum_set b ha
  have hmod : byteSum (bs.set k b) % 256 = byteSum bs % 256 := by
    rw [← checksum_toNat, ← checksum_toNat, heq]
  have hab : a.toNat = b.toNat := by
    have hlta : a.toNat < 256 := a.isLt
    have hltb : b.toNat < 256 := b.isLt
    omega
  exact h (ha.trans (congrArg some (BitVec.eq_of_toNat_eq hab)))

/-- R83: a sequence of bytes whose last one is the checksum of those before it. -/
def Checksummed (bs : List Byte) : Prop := bs.getLast? = some (checksum bs.dropLast)

theorem checksummed_append {bs : List Byte} {c : Byte} : Checksummed (bs ++ [c]) ↔ c = checksum bs := by
  simp [Checksummed]

/-- R99: a change before the last byte moves the checksum away from it; a change of the last byte moves it away from
the checksum. -/
theorem not_checksummed_set {bs : List Byte} {k : Nat} {b : Byte} (hk : k < (bs ++ [checksum bs]).length)
    (h : (bs ++ [checksum bs])[k]? ≠ some b) : ¬ Checksummed ((bs ++ [checksum bs]).set k b) := by
  by_cases hbody : k < bs.length
  · rw [List.getElem?_append_left hbody] at h
    rw [List.set_append_left _ _ hbody, checksummed_append]
    exact (checksum_set_ne hbody h).symm
  · obtain rfl : k = bs.length := by
      rw [List.length_append, List.length_singleton] at hk
      omega
    rw [List.set_append_right _ _ le_rfl, Nat.sub_self, List.set_cons_zero, checksummed_append]
    rintro rfl
    simp at h

/-- Settles O20: a frame is its bytes before the checksum and their checksum. In the frame of `stop`, one more in the
payload byte and one more in the checksum cancel. -/
theorem oneByteChangeDetected : Obligations.OneByteChangeDetected := by
  refine ⟨fun op pl k b hk h => not_checksummed_set hk h, ?_⟩
  exact ⟨.stop 0#8 0#16 [], 2, 3, 0x01#8, 0xAF#8, by decide⟩

end Sys2Proof.Machine

/-! SUPPORT. How far a frame is: a predicate that the acceptance of a valid command establishes and every undisturbed
step carries on, and what runs leave unchanged (O42). -/

namespace Sys2Proof.Machine

/-! ### The schedule and the parameters along a run -/

theorem step_of_inputs {s : State} {inp : Inputs} {rest : List Inputs} (h : s.inputs = inp :: rest) :
    step s = portStep inp s.popInputs := by
  simp [step, State.ports, h]

@[simp] theorem State.accept_inputs (cause : Option Cause) (r : Record) (s : State) :
    (s.accept cause r).inputs = s.inputs := by
  rcases accept_cases cause r s with ⟨-, -, he⟩ | ⟨c, -, -, he⟩ | ⟨-, he⟩ <;> simp [he]

@[simp] theorem State.afterByte_inputs (n : Nat) (b : Byte) (s : State) :
    (s.afterByte n b).inputs = s.inputs := by
  by_cases hk : s.idx.toNat < n - 1
  · rw [afterByte_body b hk, State.observe_inputs]
  · rw [afterByte_last b hk, State.endFrame_inputs, State.observe_inputs]

/-- No event writes the schedule. -/
theorem portStep_inputs {inp : Inputs} {s t : State} (hstep : portStep inp s = .next t) : t.inputs = s.inputs := by
  rcases portStep_cases hstep with
    ⟨-, rfl⟩ | ⟨-, -, -, -, rfl⟩ | ⟨-, -, -, rfl⟩ | ⟨i, b, -, -, -, -, -, -, rfl⟩ |
    ⟨-, -, -, rfl⟩ | ⟨-, -, -, -, rfl⟩
  · rw [State.observe_inputs, State.clearRegisters_inputs]
  · exact State.accept_inputs _ _ s
  · exact State.transportError_inputs s
  · exact State.afterByte_inputs _ b s
  · rw [State.backToIdle_inputs, State.observe_inputs]
  · rfl

theorem step_inputs {s t : State} (hstep : step s = .next t) : t.inputs = s.inputs.tail := by
  rw [step_eq_portStep] at hstep
  rw [portStep_inputs hstep, State.popInputs_inputs]

theorem step_params {s t : State} (hstep : step s = .next t) : t.params = s.params := by
  rw [step_eq_portStep] at hstep
  rw [parametersAreStatic _ _ _ hstep, State.popInputs_params]

theorem runSteps_succ {k : Nat} {s t : State} (hstep : step s = .next t) : runSteps (k + 1) s = runSteps k t := by
  simp only [runSteps, hstep]

/-- A run of one step more is a step and a run. -/
theorem runSteps_succ_cases {k : Nat} {s u : State} (hrun : runSteps (k + 1) s = .next u) :
    ∃ t, step s = .next t ∧ runSteps k t = .next u := by
  cases hstep : step s with
  | next t => exact ⟨t, rfl, by rwa [runSteps_succ hstep] at hrun⟩
  | fault f => simp [runSteps, hstep] at hrun
  | refused r => simp [runSteps, hstep] at hrun

/-- R121: each step takes the port values of one step off the schedule. -/
theorem runSteps_inputs {k : Nat} {s u : State} (hrun : runSteps k s = .next u) : u.inputs = s.inputs.drop k := by
  induction k generalizing s with
  | zero => cases hrun; rfl
  | succ k ih =>
    obtain ⟨t, hstep, hrest⟩ := runSteps_succ_cases hrun
    rw [ih hrest, step_inputs hstep, List.drop_tail]

theorem runSteps_params {k : Nat} {s u : State} (hrun : runSteps k s = .next u) : u.params = s.params := by
  induction k generalizing s with
  | zero => cases hrun; rfl
  | succ k ih =>
    obtain ⟨t, hstep, hrest⟩ := runSteps_succ_cases hrun
    rw [ih hrest, step_params hstep]

/-! ### The ports of an undisturbed step -/

theorem Inputs.undisturbed_iff {inp : Inputs} : inp.undisturbed = true ↔ inp.rst = false ∧ inp.txErr = false := by
  simp [Inputs.undisturbed]

theorem readyCount_cons (inp : Inputs) (ins : List Inputs) :
    readyCount (inp :: ins) = inp.txReady.toNat + readyCount ins := by
  cases h : inp.txReady <;> simp [readyCount, h, Nat.add_comm]

/-! ### The command in the latches -/

/-- R63, R123: the latches of a valid command select a command with its frame, although `LPATH` need not hold a path
the command does not read (log entry 4). -/
theorem latchedInstr_of_valid {s : State} {i : Instr} (hvalid : validate s.params (encode i) = none) :
    ∃ j, (s.startFrame (encode i)).latchedInstr = .ok j ∧ frame j = frame i := by
  have hlatched := validate_latchedPath hvalid
  obtain ⟨j, hdec, hlen⟩ := decode_of_valid hlatched
  refine ⟨j, latchedInstr_ok.mpr ⟨hdec, hlen⟩, ?_⟩
  obtain ⟨-, hframe⟩ := unlistedFieldsIgnored s.params { encode i with path := latchedPath (encode i).path } (encode i)
    rfl (fun _ => rfl) (fun _ => rfl) fun hplay => by
      cases i with
      | play a8 a16 path => exact latchedPath_of_le (path_length_of_valid hvalid)
      | _ => simp [encode, opStop, opSetVolume, opSetPlayModel, opSetLoopCount] at hplay
  rw [← encode_of_decode hdec] at hframe hlatched
  simpa only [expectedFrame_encode, hvalid, hlatched, if_true] using hframe

/-! ### How far a frame is -/

/-- R91, R124: the sink has accepted `m` bytes of the frame of `i`, the command in the latches, since the observation
was `before`: either the block is in EMIT at index `m`, or the frame is done and its response is offered. -/
structure FrameProgress (i : Instr) (before : List Obs) (m : Nat) (s : State) : Prop where
  invariant : Invariant s
  latched : s.latchedInstr = .ok i
  observed : s.obs = before ++ ((frame i).take m).map Obs.emit
  phase : (m < frameLen i ∧ s.st = .emit ∧ s.idx.toNat = m)
    ∨ (m = frameLen i ∧ s.st = .resp ∧ s.rcode = codeOk ∧ s.rinfo = BitVec.ofNat 9 (frameLen i))

theorem FrameProgress.popInputs {i : Instr} {before : List Obs} {m : Nat} {s : State}
    (h : FrameProgress i before m s) : FrameProgress i before m s.popInputs :=
  ⟨h.invariant.popInputs, h.latched, h.observed, h.phase⟩

/-- R123: the acceptance of a valid command begins its frame. -/
theorem exec_begins_frame {s t : State} {i : Instr} (hinv : Invariant s) (hst : s.st = .idle)
    (hvalid : validate s.params (encode i) = none) (hexec : exec i s = .next t) :
    ∃ j, frame j = frame i ∧ FrameProgress j (s.obs ++ [.accepted (encode i)]) 0 t
      ∧ t.inputs = s.inputs ∧ t.params = s.params := by
  rw [exec_eq_accept, hvalid, accept_valid _ hst] at hexec
  cases hexec
  obtain ⟨j, hj, hframe⟩ := latchedInstr_of_valid (s := s.observe (.accepted (encode i))) hvalid
  have hpos : 0 < frameLen j := Nat.lt_of_lt_of_le four_pos (frameLen_ge j)
  refine ⟨j, hframe, ⟨(hinv.observe _).startFrame hvalid, hj, ?_, .inl ⟨hpos, rfl, rfl⟩⟩, rfl, rfl⟩
  simp

@[simp] theorem State.afterByte_obs (n : Nat) (b : Byte) (s : State) :
    (s.afterByte n b).obs = s.obs ++ [.emit b] := by
  by_cases hk : s.idx.toNat < n - 1
  · rw [afterByte_body b hk, State.observe_obs]
  · rw [afterByte_last b hk, State.endFrame_obs, State.observe_obs]

@[simp] theorem State.afterByte_latchedInstr (n : Nat) (b : Byte) (s : State) :
    (s.afterByte n b).latchedInstr = s.latchedInstr := by
  by_cases hk : s.idx.toNat < n - 1
  · rw [afterByte_body b hk]; rfl
  · rw [afterByte_last b hk]; rfl

/-- R124: an accepted byte is the frame's next one, and the last one ends the frame with OK and its length. -/
theorem FrameProgress.afterByte {i : Instr} {before : List Obs} {s : State} {b : Byte}
    (h : FrameProgress i before s.idx.toNat s) (hst : s.st = .emit)
    (hb : frameByte i s.acc s.idx.toNat = some b) :
    FrameProgress i before (s.idx.toNat + 1) (s.afterByte (frameLen i) b) where
  invariant := h.invariant.afterByte hst h.latched hb
  latched := (State.afterByte_latchedInstr _ b s).trans h.latched
  observed := by
    rw [h.invariant.frameByte_emit hst h.latched] at hb
    rw [State.afterByte_obs, h.observed, List.take_add_one, hb]
    simp
  phase := by
    obtain ⟨hidx, -⟩ := h.invariant.emit_running hst i (latchedInstr_ok.mp h.latched).1
    have hle := h.invariant.idx_le hst
    by_cases hk : s.idx.toNat < frameLen i - 1
    · rw [afterByte_body b hk]
      exact .inl ⟨by omega, hst, show (s.idx + 1#9).toNat = _ by bv_omega⟩
    · rw [afterByte_last b hk]
      exact .inr ⟨by omega, rfl, rfl, rfl⟩

/-- R122, R124: an undisturbed step moves the frame on by a byte where the sink is ready, and waits where it is not.
In RESP the host is not ready. -/
theorem FrameProgress.portStep {i : Instr} {before : List Obs} {m : Nat} {s : State} {inp : Inputs}
    (h : FrameProgress i before m s) (hinp : inp.undisturbed = true)
    (hcount : m + inp.txReady.toNat ≤ frameLen i) (hrsp : m = frameLen i → inp.rspReady = false) :
    ∃ t, portStep inp s = .next t ∧ FrameProgress i before (m + inp.txReady.toNat) t := by
  obtain ⟨hrst, herr⟩ := Inputs.undisturbed_iff.mp hinp
  rcases h.phase with ⟨-, hst, rfl⟩ | ⟨hm, hst, -, -⟩ <;> cases hready : inp.txReady
  · exact ⟨s, portStep_idle hrst (by simp [hst]) (fun _ => ⟨herr, hready⟩) (by simp [hst]), h⟩
  · obtain ⟨b, hb⟩ := h.invariant.exists_frameByte hst h.latched
    exact ⟨_, (portStep_sinkAccept hrst hst herr hready).trans (sinkAccept_emit hst h.latched hb), h.afterByte hst hb⟩
  · exact ⟨s, portStep_idle hrst (by simp [hst]) (by simp [hst]) (fun _ => hrsp hm), h⟩
  · rw [hready, Bool.toNat_true] at hcount
    omega

/-- R95: over any undisturbed steps the frame moves on by as many bytes as the sink is ready for, as long as it has
them. A host may be ready for the response where the steps end before the frame does. -/
theorem FrameProgress.runSteps {i : Instr} {before : List Obs} {m : Nat} {s : State} {ins rest : List Inputs}
    (h : FrameProgress i before m s) (hinputs : s.inputs = ins ++ rest)
    (hcount : m + readyCount ins ≤ frameLen i)
    (hins : ∀ inp ∈ ins, inp.undisturbed = true ∧ (m + readyCount ins = frameLen i → inp.rspReady = false)) :
    ∃ u, runSteps ins.length s = .next u ∧ FrameProgress i before (m + readyCount ins) u := by
  induction ins generalizing m s with
  | nil => exact ⟨s, rfl, h⟩
  | cons inp ins ih =>
    obtain ⟨⟨hinp, hrsp⟩, hins⟩ := List.forall_mem_cons.mp hins
    rw [readyCount_cons, ← Nat.add_assoc] at hcount hrsp hins ⊢
    obtain ⟨t, hstep, ht⟩ := h.popInputs.portStep hinp (by omega) (fun hm => hrsp (by omega))
    rw [← step_of_inputs hinputs] at hstep
    have hrest : t.inputs = ins ++ rest := by rw [step_inputs hstep, hinputs]; rfl
    obtain ⟨u, hrun, hu⟩ := ih ht hrest hcount hins
    exact ⟨u, (runSteps_succ hstep).trans hrun, hu⟩

/-- R100: after the last byte the whole frame is on the wire and the response is OK with its length. -/
theorem FrameProgress.complete {i : Instr} {before : List Obs} {s : State}
    (h : FrameProgress i before (frameLen i) s) :
    s.st = .resp ∧ s.rspCode = some codeOk ∧ s.rspInfo = some (BitVec.ofNat 9 (frame i).length)
      ∧ s.obs = before ++ (frame i).map Obs.emit := by
  rcases h.phase with ⟨hlt, -⟩ | ⟨-, hst, hcode, hinfo⟩
  · exact absurd hlt (Nat.lt_irrefl _)
  · refine ⟨hst, ?_, ?_, ?_⟩
    · rw [State.rspCode_resp hst, hcode]
    · rw [State.rspInfo_resp hst, hinfo, frame_length]
    · rw [h.observed, ← frame_length, List.take_length]

/-- Settles O42: the acceptance begins the frame, the steps move it on by all of its bytes, and what remains of the
schedule and the parameters are as every run leaves them. -/
theorem commandEmitsItsFrame : Obligations.CommandEmitsItsFrame := by
  intro s t i ins rest hinv hst hvalid hexec hinputs hins hready
  obtain ⟨j, hframe, hbegin, htinputs, htparams⟩ := exec_begins_frame hinv hst hvalid hexec
  have hlen : 0 + readyCount ins = frameLen j := by
    rw [Nat.zero_add, hready, ← frame_length, ← frame_length, hframe]
  rw [← htinputs] at hinputs
  obtain ⟨u, hrun, hu⟩ := hbegin.runSteps hinputs hlen.le
    (fun inp hmem => ⟨(hins inp hmem).1, fun _ => (hins inp hmem).2⟩)
  rw [hlen] at hu
  obtain ⟨hust, hcode, hinfo, hobs⟩ := hu.complete
  rw [hframe] at hinfo hobs
  refine ⟨u, hrun, hust, hcode, hinfo, hobs, ?_, (runSteps_params hrun).trans htparams⟩
  rw [runSteps_inputs hrun, hinputs, List.drop_left]

end Sys2Proof.Machine

/-! SUPPORT. The bytes of the five frames, and the acceptance of each command as an equation of whole states
(O17, O21, O22, O23, O24, O25). -/

namespace Sys2Proof.Machine

/-! ### The frames, byte by byte -/

/-- R93: a step of the running checksum is the addition of bytes, which wraps at 256. -/
theorem accStep_eq_add (acc b : Byte) : accStep acc b = acc + b := by
  apply BitVec.eq_of_toNat_eq
  simp [accStep]

theorem checksum_append_singleton (bs : List Byte) (b : Byte) : checksum (bs ++ [b]) = checksum bs + b := by
  rw [checksum_snoc, accStep_eq_add]

/-- R91: the checksum of a frame whose body ends in the byte `b` is `b` added to the checksum of the bytes before it. -/
theorem frame_of_body_append {i : Instr} {bs : List Byte} {b : Byte} (h : body i = bs ++ [b]) :
    frame i = bs ++ [b] ++ [checksum bs + b] := by
  rw [frame_eq_body, h, checksum_append_singleton]

/-- R101. -/
theorem frame_setPlayModel (a8 : Byte) (a16 : Half) (path : List Byte) :
    frame (.setPlayModel a8 a16 path) = [0xAA#8, 0x18#8, 0x01#8, a8, 0xC3#8 + a8] :=
  frame_of_body_append (bs := [0xAA#8, 0x18#8, 0x01#8]) rfl

/-- R102: the checksum before the low byte of the count is itself one more byte, the high one, added to a constant. -/
theorem frame_setLoopCount (a8 : Byte) (a16 : Half) (path : List Byte) :
    frame (.setLoopCount a8 a16 path)
      = [0xAA#8, 0x19#8, 0x02#8, countHigh a16, countLow a16, 0xC5#8 + countHigh a16 + countLow a16] := by
  have hhigh : checksum [0xAA#8, 0x19#8, 0x02#8, countHigh a16] = 0xC5#8 + countHigh a16 :=
    checksum_append_singleton [0xAA#8, 0x19#8, 0x02#8] (countHigh a16)
  rw [← hhigh]
  exact frame_of_body_append (bs := [0xAA#8, 0x19#8, 0x02#8, countHigh a16]) rfl

/-- R103. -/
theorem frame_setVolume (a8 : Byte) (a16 : Half) (path : List Byte) :
    frame (.setVolume a8 a16 path) = [0xAA#8, 0x13#8, 0x01#8, a8, 0xBE#8 + a8] :=
  frame_of_body_append (bs := [0xAA#8, 0x13#8, 0x01#8]) rfl

/-- R105: every byte of the `stop` frame is a constant. -/
theorem frame_stop (a8 : Byte) (a16 : Half) (path : List Byte) :
    frame (.stop a8 a16 path) = [0xAA#8, 0x04#8, 0x00#8, 0xAE#8] :=
  frame_of_body_append (bs := [0xAA#8, 0x04#8]) rfl

/-- R104. -/
theorem frame_play (a8 : Byte) (a16 : Half) (path : List Byte) :
    frame (.play a8 a16 path)
      = [0xAA#8, 0x08#8, playLengthByte path, 0x02#8] ++ encodePath path
        ++ [checksum ([0xAA#8, 0x08#8, playLengthByte path, 0x02#8] ++ encodePath path)] := by
  rw [frame_eq_body, body_play]
  rfl

/-- Settles O17, command by command: each body is written out, and its constant bytes sum to the constant of its
checksum. -/
theorem framesOfTheCommands : Obligations.FramesOfTheCommands := fun a8 a16 path =>
  ⟨frame_setPlayModel a8 a16 path, frame_setLoopCount a8 a16 path, frame_setVolume a8 a16 path,
    frame_stop a8 a16 path, frame_play a8 a16 path⟩

/-! ### The checks that pass -/

/-- R143, R144: a path passes where it fits in 254 bytes and all of them are in the charset. -/
theorem checkPath_eq_none {p : Params} {path : List Byte} (hlen : path.length ≤ 254)
    (hchars : ∀ c ∈ path, c ∈ p.pathCharset) : checkPath p path = none := by
  have hshort : ¬ Config.pathMax < path.length := Nat.not_lt.mpr hlen
  simpa [checkPath, hshort] using hchars

/-- R145: a volume passes where it is not checked or not above the limit. -/
theorem checkVolume_eq_none {p : Params} {level : Byte} (h : p.volCheck = false ∨ level ≤ p.volMax) :
    checkVolume p level = none := by
  rcases h with hoff | hle
  · simp [checkVolume, hoff]
  · exact if_neg fun ⟨_, habove⟩ => absurd habove (BitVec.not_lt.mpr hle)

/-- R146: the bytes of the three play models pass. -/
theorem checkPlayModel_eq_none {model : Byte} (h : model = 0x00#8 ∨ model = 0x01#8 ∨ model = 0x02#8) :
    checkPlayModel model = none := by
  rcases h with rfl | rfl | rfl <;> rfl

/-! ### The commands complete -/

/-- R123, the valid case, for every command: the record is observed, latched and its frame begun. -/
theorem exec_of_valid {i : Instr} {s : State} (hst : s.st = .idle) (hvalid : validate s.params (encode i) = none) :
    exec i s = .next { s with
      st := .emit, latched := true, lop := (encode i).op, la8 := (encode i).a8, la16 := (encode i).a16,
      lpath := latchedPath (encode i).path, idx := 0#9, acc := 0#8, obs := s.obs ++ [.accepted (encode i)] } := by
  rw [exec_eq_accept, hvalid, accept_valid _ hst]
  rfl

/-- Settles O21: `stop` has no check (R105). -/
theorem stopCompletes : Obligations.StopCompletes := fun _ _ _ s hst =>
  exec_of_valid hst (validate_encode s.params _)

/-- Settles O22: the path passes its checks, and then fits the latch. -/
theorem playCompletes : Obligations.PlayCompletes := by
  intro a8 a16 path s hst hlen hchars
  have hvalid : validate s.params (encode (.play a8 a16 path)) = none :=
    (validate_encode s.params _).trans (checkPath_eq_none hlen hchars)
  have hlatch : latchedPath (encode (.play a8 a16 path)).path = path := latchedPath_of_le hlen
  rw [exec_of_valid hst hvalid, hlatch]
  rfl

/-- Settles O23: a volume that passes its check is latched as presented. -/
theorem setVolumeCompletes : Obligations.SetVolumeCompletes := fun _ _ _ s hst hvolume =>
  exec_of_valid hst ((validate_encode s.params _).trans (checkVolume_eq_none hvolume))

/-- Settles O24: the three models pass their check. -/
theorem setPlayModelCompletes : Obligations.SetPlayModelCompletes := fun _ _ _ s hst hmodel =>
  exec_of_valid hst ((validate_encode s.params _).trans (checkPlayModel_eq_none hmodel))

/-- Settles O25: `setLoopCount` has no check (R102). -/
theorem setLoopCountCompletes : Obligations.SetLoopCountCompletes := fun _ _ _ s hst =>
  exec_of_valid hst (validate_encode s.params _)

end Sys2Proof.Machine

/-! SUPPORT. The events of the sequencer as equations of whole states, and what one step can do to the observation, to
ST and to IDX (O31 to O38). -/

namespace Sys2Proof.Machine

/-! ### Each event as an equation of whole states -/

/-- Settles O31: with no transfer enabled the event is `Idle`. -/
theorem idleStepChangesNothing : Obligations.IdleStepChangesNothing :=
  fun _ _ hrst hidle hemit hresp => portStep_idle hrst hidle (fun hst => (hemit hst).symm) hresp

/-- R123: a step in which a presentable record is offered in IDLE accepts it with the result of its validation. -/
theorem portStep_accept_presentable {inp : Inputs} {s : State} (hst : s.st = .idle) (hrst : inp.rst = false)
    (hvalid : inp.cmdValid = true) (hpres : inp.cmd.presentable s.params = true) :
    portStep inp s = .next (s.accept (validate s.params inp.cmd) inp.cmd) :=
  (portStep_accept hrst hst hvalid).trans (acceptRecord_presentable hpres)

/-- Settles O32, by the result of validation: none starts the frame, a cause is taken as the encoding error. -/
theorem acceptFollowsValidation : Obligations.AcceptFollowsValidation := by
  intro inp s hst hrst hoffer hpres
  have hstep := portStep_accept_presentable hst hrst hoffer hpres
  refine ⟨fun hvalid => ?_, fun c hcause => ?_⟩
  · rw [hstep, hvalid, accept_valid _ hst]
    rfl
  · rw [hstep, hcause, accept_invalid c _ hst]
    rfl

/-- Settles O33: under the invariant the layout mapper has a byte at `IDX`, which is the one offered and the one the
sink's acceptance takes, as a body byte or as the last. -/
theorem sinkAcceptMovesOneByte : Obligations.SinkAcceptMovesOneByte := by
  intro inp s i hinv hst hdec hrst herr hready
  obtain ⟨j, hj⟩ := hinv.latchedInstr_emit hst
  obtain rfl : i = j := Decoded.instr.inj (hdec.symm.trans (latchedInstr_ok.mp hj).1)
  obtain ⟨b, hb⟩ := hinv.exists_frameByte hst hj
  have hstep : portStep inp s = .next (s.afterByte (frameLen i) b) :=
    (portStep_sinkAccept hrst hst herr hready).trans (sinkAccept_emit hst hj hb)
  refine ⟨b, (State.txData_emit hst hj).trans hb, fun hbody => ?_, fun hlast => ?_⟩
  · rw [hstep, afterByte_body b hbody]
    rfl
  · rw [hstep, afterByte_last b hlast]
    rfl

/-- Settles O34: a failure comes before an acceptance in the choice of the event (R149). -/
theorem sinkFailEndsFrame : Obligations.SinkFailEndsFrame :=
  fun _ _ hst hrst herr => portStep_sinkFail hrst hst herr

/-- Settles O35: the response taken is the one RCODE and RINFO hold. -/
theorem takeReturnsToIdle : Obligations.TakeReturnsToIdle :=
  fun _ _ hst hrst hready => portStep_take hrst hst hready

/-- Settles O37: without an answer of the sink the step in EMIT is `Idle`, so the outputs are those of the same
state. -/
theorem offerIsStable : Obligations.OfferIsStable := by
  intro inp s t hst hstep hrst herr hready
  have hsame : portStep inp s = .next s :=
    portStep_idle hrst (by simp [hst]) (fun _ => ⟨herr, hready⟩) (by simp [hst])
  obtain rfl : s = t := Host.Outcome.next.inj (hsame.symm.trans hstep)
  exact ⟨rfl, rfl, rfl⟩

/-! ### The observation, ST and IDX under the operations that choose -/

theorem State.accept_obs {s : State} (cause : Option Cause) (r : Record) (hst : s.st = .idle) :
    (s.accept cause r).obs = s.obs ++ [.accepted r] := by
  cases cause with
  | none => rw [accept_valid r hst, State.startFrame_obs, State.observe_obs]
  | some c => rw [accept_invalid c r hst, State.encodingError_obs, State.observe_obs]

theorem State.accept_idx (cause : Option Cause) (r : Record) (s : State) :
    (s.accept cause r).idx = s.idx ∨ (s.accept cause r).idx = 0#9 := by
  rcases accept_cases cause r s with ⟨-, -, he⟩ | ⟨c, -, -, he⟩ | ⟨-, he⟩ <;> rw [he]
  · exact .inr rfl
  · exact .inl rfl
  · exact .inl rfl

theorem State.afterByte_st (n : Nat) (b : Byte) (s : State) :
    (s.afterByte n b).st = s.st ∨ (s.afterByte n b).st = .resp := by
  by_cases hk : s.idx.toNat < n - 1
  · rw [afterByte_body b hk]; exact .inl rfl
  · rw [afterByte_last b hk]; exact .inr rfl

theorem State.afterByte_idx (n : Nat) (b : Byte) (s : State) :
    (s.afterByte n b).idx = 0#9 ∨ (s.afterByte n b).idx = s.idx + 1#9 := by
  by_cases hk : s.idx.toNat < n - 1
  · rw [afterByte_body b hk]; exact .inr rfl
  · rw [afterByte_last b hk]; exact .inl rfl

/-- Settles O38, event by event: each appends the one record R130 gives it, a failed byte and `Idle` none. -/
theorem atMostOneRecordPerStep : Obligations.AtMostOneRecordPerStep := by
  intro inp s t hstep
  rcases portStep_cases hstep with
    ⟨-, rfl⟩ | ⟨-, hst, -, -, rfl⟩ | ⟨-, -, -, rfl⟩ | ⟨i, b, -, -, -, -, -, -, rfl⟩ |
    ⟨-, -, -, rfl⟩ | ⟨-, -, -, -, rfl⟩
  · exact .inr ⟨.reset, rfl⟩
  · exact .inr ⟨.accepted inp.cmd, State.accept_obs _ _ hst⟩
  · exact .inl rfl
  · exact .inr ⟨.emit b, State.afterByte_obs _ b s⟩
  · exact .inr ⟨.response s.rcode s.rinfo, rfl⟩
  · exact .inl rfl

/-! ### The wire, the commands and the responses of an observation -/

@[simp] theorem wireOf_append (os os' : List Obs) : wireOf (os ++ os') = wireOf os ++ wireOf os' := by
  induction os with
  | nil => rfl
  | cons o os ih => cases o <;> simp [wireOf, ih]

@[simp] theorem acceptedOf_append (os os' : List Obs) :
    acceptedOf (os ++ os') = acceptedOf os ++ acceptedOf os' := by
  induction os with
  | nil => rfl
  | cons o os ih => cases o <;> simp [acceptedOf, ih]

@[simp] theorem responsesOf_append (os os' : List Obs) :
    responsesOf (os ++ os') = responsesOf os ++ responsesOf os' := by
  induction os with
  | nil => rfl
  | cons o os ih => cases o <;> simp [responsesOf, ih]

/-- Settles O36, event by event: only `Accept`, in IDLE, appends an accepted command, and only `Take` leaves RESP. -/
theorem oneCommandInFlight : Obligations.OneCommandInFlight := by
  intro inp s t hstep hrst
  rcases portStep_cases hstep with
    ⟨hreset, -⟩ | ⟨-, hst, -, -, rfl⟩ | ⟨-, hst, -, rfl⟩ | ⟨i, b, -, hst, -, -, -, -, rfl⟩ |
    ⟨-, hst, -, rfl⟩ | ⟨-, -, -, -, rfl⟩
  · simp [hrst] at hreset
  · exact ⟨absurd hst, by simp [hst], by simp [hst], (State.accept_idx _ _ s).imp_right .inl⟩
  · exact ⟨fun _ => rfl, fun _ => .inr rfl, by simp [hst], .inr (.inl rfl)⟩
  · exact ⟨fun _ => by simp [acceptedOf], fun hemit => (State.afterByte_st _ b s).imp_left (·.trans hemit),
      by simp [hst], .inr (State.afterByte_idx _ b s)⟩
  · exact ⟨fun _ => by simp [acceptedOf], by simp [hst], fun _ => .inr ⟨rfl, by simp [responsesOf]⟩, .inl rfl⟩
  · exact ⟨fun _ => rfl, .inl, .inl, .inl rfl⟩

end Sys2Proof.Machine

/-! SUPPORT. How far a run is: a predicate that holds in IDLE with all commands answered and that every undisturbed
step carries on through EMIT and RESP (O44). -/

namespace Sys2Proof.Machine

/-! ### What is expected of a valid and of a rejected record -/

theorem expectedFrame_of_valid {p : Params} {i : Instr} (hvalid : validate p (encode i) = none) :
    expectedFrame p (encode i) = frame i := by
  rw [expectedFrame_encode, if_pos hvalid]

/-- R132: nothing of a rejected record comes on the wire. -/
theorem expectedFrame_of_cause {p : Params} {r : Record} {c : Cause} (hcause : validate p r = some c) :
    expectedFrame p r = [] := by
  unfold expectedFrame
  rw [hcause]

theorem expectedResponse_of_valid {p : Params} {r : Record} (hvalid : validate p r = none) :
    expectedResponse p r = (codeOk, BitVec.ofNat 9 (expectedFrame p r).length) := by
  obtain ⟨i, hdec, -⟩ := decode_of_valid hvalid
  unfold expectedResponse expectedFrame
  rw [hvalid, hdec]

theorem expectedResponse_of_cause {p : Params} {r : Record} {c : Cause} (hcause : validate p r = some c) :
    expectedResponse p r = (causeCode c, 0#9) := by
  unfold expectedResponse
  rw [hcause]

/-! ### An observation whose commands are all answered -/

@[simp] theorem wireOf_map_emit (bs : List Byte) : wireOf (bs.map .emit) = bs := by
  induction bs with
  | nil => rfl
  | cons b bs ih => simp [wireOf, ih]

@[simp] theorem acceptedOf_map_emit (bs : List Byte) : acceptedOf (bs.map .emit) = [] := by
  induction bs with
  | nil => rfl
  | cons b bs ih => simp [acceptedOf, ih]

@[simp] theorem responsesOf_map_emit (bs : List Byte) : responsesOf (bs.map .emit) = [] := by
  induction bs with
  | nil => rfl
  | cons b bs ih => simp [responsesOf, ih]

/-- R132: since the observation was `base`, each command accepted has its frame on the wire and its response taken. -/
def AnsweredSince (p : Params) (base done : List Obs) : Prop :=
  ∃ os, done = base ++ os ∧ wireOf os = (acceptedOf os).flatMap (expectedFrame p)
    ∧ responsesOf os = (acceptedOf os).map (expectedResponse p)

theorem answeredSince_refl (p : Params) (base : List Obs) : AnsweredSince p base base :=
  ⟨[], (List.append_nil base).symm, rfl, rfl⟩

/-- R132: one more command, with its frame and its response. -/
theorem AnsweredSince.command {p : Params} {base done : List Obs} {r : Record} {code : Code4} {info : Count9}
    (h : AnsweredSince p base done) (hresponse : expectedResponse p r = (code, info)) :
    AnsweredSince p base
      (done ++ [.accepted r] ++ (expectedFrame p r).map .emit ++ [.response code info]) := by
  obtain ⟨os, rfl, hwire, hresponses⟩ := h
  refine ⟨os ++ [.accepted r] ++ (expectedFrame p r).map .emit ++ [.response code info], by simp, ?_, ?_⟩
  · simp [wireOf, acceptedOf, hwire]
  · simp [responsesOf, acceptedOf, hresponses, hresponse]

/-! ### How far a run is -/

/-- R127, R132: where a run under the parameters `p` is since the observation was `base`, by the state of the sequencer:
all commands are answered; or one more, `r`, is accepted and a part of its frame is on the wire; or the whole frame is,
and its response is offered. -/
inductive RunProgress (p : Params) (base : List Obs) (s : State) : Prop where
  | settled (hst : s.st = .idle) (hdone : AnsweredSince p base s.obs)
  | emitting {done : List Obs} {r : Record} {i : Instr} {m : Nat} (hst : s.st = .emit)
      (hdone : AnsweredSince p base done) (hvalid : validate p r = none) (hframe : frame i = expectedFrame p r)
      (hprogress : FrameProgress i (done ++ [.accepted r]) m s)
  | responding {done : List Obs} {r : Record} (hst : s.st = .resp) (hdone : AnsweredSince p base done)
      (hresponse : expectedResponse p r = (s.rcode, s.rinfo))
      (hobs : s.obs = done ++ [.accepted r] ++ (expectedFrame p r).map .emit)

theorem RunProgress.popInputs {p : Params} {base : List Obs} {s : State} (h : RunProgress p base s) :
    RunProgress p base s.popInputs := by
  cases h with
  | settled hst hdone => exact .settled hst hdone
  | emitting hst hdone hvalid hframe hprogress => exact .emitting hst hdone hvalid hframe hprogress.popInputs
  | responding hst hdone hresponse hobs => exact .responding hst hdone hresponse hobs

theorem RunProgress.answered_of_idle {p : Params} {base : List Obs} {s : State} (h : RunProgress p base s)
    (hidle : s.st = .idle) : AnsweredSince p base s.obs := by
  cases h with
  | settled _ hdone => exact hdone
  | emitting hst => simp [hidle] at hst
  | responding hst => simp [hidle] at hst

/-- R124: the frame of a valid command is in EMIT, or it is on the wire and the response offered is the one
expected. -/
theorem RunProgress.of_frameProgress {p : Params} {base done : List Obs} {r : Record} {i : Instr} {m : Nat} {s : State}
    (hdone : AnsweredSince p base done) (hvalid : validate p r = none) (hframe : frame i = expectedFrame p r)
    (hprogress : FrameProgress i (done ++ [.accepted r]) m s) : RunProgress p base s := by
  rcases hprogress.phase with ⟨-, hst, -⟩ | ⟨rfl, hst, hcode, hinfo⟩
  · exact .emitting hst hdone hvalid hframe hprogress
  · obtain ⟨-, -, -, hobs⟩ := hprogress.complete
    refine .responding hst hdone ?_ (by rwa [← hframe])
    rw [expectedResponse_of_valid hvalid, ← hframe, frame_length, hcode, hinfo]

/-- R123: an acceptance begins the frame of a valid record and offers the response of a rejected one. -/
theorem RunProgress.of_accept {base : List Obs} {s : State} (hinv : Invariant s) (hst : s.st = .idle)
    (hdone : AnsweredSince s.params base s.obs) (r : Record) :
    RunProgress s.params base (s.accept (validate s.params r) r) := by
  cases hv : validate s.params r with
  | none =>
    obtain ⟨i, hdec, -⟩ := decode_of_valid hv
    obtain rfl := encode_of_decode hdec
    obtain ⟨j, hframe, hprogress, -, -⟩ := exec_begins_frame hinv hst hv (exec_eq_accept i s)
    rw [hv] at hprogress
    exact .of_frameProgress hdone hv (hframe.trans (expectedFrame_of_valid hv).symm) hprogress
  | some c =>
    rw [accept_invalid c r hst]
    refine .responding rfl hdone (expectedResponse_of_cause hv) ?_
    rw [expectedFrame_of_cause hv]
    simp

/-- R126: a response that is taken answers its command. -/
theorem RunProgress.of_take {p : Params} {base done : List Obs} {r : Record} {s : State}
    (hdone : AnsweredSince p base done) (hresponse : expectedResponse p r = (s.rcode, s.rinfo))
    (hobs : s.obs = done ++ [.accepted r] ++ (expectedFrame p r).map .emit) :
    RunProgress p base (s.observe (.response s.rcode s.rinfo)).backToIdle := by
  refine .settled rfl ?_
  rw [State.backToIdle_obs, State.observe_obs, hobs]
  exact hdone.command hresponse

/-- A frame that the sink has not finished moves on in an undisturbed step. -/
theorem FrameProgress.of_portStep {i : Instr} {before : List Obs} {m : Nat} {s t : State} {inp : Inputs}
    (h : FrameProgress i before m s) (hst : s.st = .emit) (hinp : inp.undisturbed = true)
    (hstep : Machine.portStep inp s = .next t) : FrameProgress i before (m + inp.txReady.toNat) t := by
  rcases h.phase with ⟨hm, -, -⟩ | ⟨-, hresp, -⟩
  · have hready := inp.txReady.toNat_le
    obtain ⟨u, hu, hprogress⟩ := h.portStep hinp (by omega) (by omega)
    obtain rfl : u = t := Host.Outcome.next.inj (hu.symm.trans hstep)
    exact hprogress
  · simp [hst] at hresp

/-- R127: an undisturbed step carries the run on. In IDLE it accepts a record or does nothing; in EMIT it moves the
frame on; in RESP the response is taken or waits. -/
theorem RunProgress.of_portStep {base : List Obs} {s t : State} {inp : Inputs} (hinv : Invariant s)
    (h : RunProgress s.params base s) (hinp : inp.undisturbed = true) (hstep : portStep inp s = .next t) :
    RunProgress s.params base t := by
  obtain ⟨hrst, -⟩ := Inputs.undisturbed_iff.mp hinp
  cases h with
  | settled hst hdone =>
    cases hoffer : inp.cmdValid with
    | true =>
      rw [portStep_accept hrst hst hoffer] at hstep
      obtain ⟨-, rfl⟩ := acceptRecord_cases hstep
      exact .of_accept hinv hst hdone inp.cmd
    | false =>
      rw [portStep_idle hrst (fun _ => hoffer) (by simp [hst]) (by simp [hst])] at hstep
      cases hstep
      exact .settled hst hdone
  | emitting hst hdone hvalid hframe hprogress =>
    exact .of_frameProgress hdone hvalid hframe (hprogress.of_portStep hst hinp hstep)
  | responding hst hdone hresponse hobs =>
    cases hready : inp.rspReady with
    | true =>
      rw [portStep_take hrst hst hready] at hstep
      cases hstep
      exact .of_take hdone hresponse hobs
    | false =>
      rw [portStep_idle hrst (by simp [hst]) (by simp [hst]) (fun _ => hready)] at hstep
      cases hstep
      exact .responding hst hdone hresponse hobs

theorem RunProgress.of_step {base : List Obs} {s t : State} (hinv : Invariant s) (h : RunProgress s.params base s)
    (hports : s.ports.undisturbed = true) (hstep : step s = .next t) : RunProgress t.params base t := by
  rw [step_params hstep]
  exact RunProgress.of_portStep (s := s.popInputs) hinv.popInputs h.popInputs hports hstep

/-! ### Runs -/

/-- The next step and the steps after it are undisturbed where the schedule is; with nothing scheduled no port is
asserted (R122). -/
theorem undisturbed_take_succ {k : Nat} {s : State}
    (h : ∀ inp ∈ s.inputs.take (k + 1), inp.undisturbed = true) :
    s.ports.undisturbed = true ∧ ∀ inp ∈ s.inputs.tail.take k, inp.undisturbed = true := by
  unfold State.ports
  cases hins : s.inputs with
  | nil => simp [Inputs.undisturbed, Inputs.quiet]
  | cons inp rest =>
    rw [hins, List.take_succ_cons, List.forall_mem_cons] at h
    exact h

/-- R131, R132: an undisturbed run of any length carries its progress on. -/
theorem RunProgress.of_runSteps {base : List Obs} {k : Nat} {s t : State} (hinv : Invariant s)
    (h : RunProgress s.params base s) (hins : ∀ inp ∈ s.inputs.take k, inp.undisturbed = true)
    (hrun : runSteps k s = .next t) : RunProgress t.params base t := by
  induction k generalizing s with
  | zero => cases hrun; exact h
  | succ k ih =>
    obtain ⟨u, hstep, hrest⟩ := runSteps_succ_cases hrun
    obtain ⟨hports, htail⟩ := undisturbed_take_succ hins
    rw [← step_inputs hstep] at htail
    exact ih (everyStepKeepsInvariant _ _ hinv hstep) (h.of_step hinv hports hstep) htail hrest

/-- R131: a run that answers what it accepts is complete where it started complete. -/
theorem complete_of_answeredSince {p : Params} {s t : State} (h : AnsweredSince p s.obs t.obs) (ht : t.st = .idle)
    (hs : complete s) : complete t := by
  obtain ⟨os, hobs, -, hresponses⟩ := h
  obtain ⟨-, hcount⟩ := hs
  refine ⟨ht, ?_⟩
  rw [hobs, responsesOf_append, acceptedOf_append, hresponses]
  simp [hcount]

/-- Settles O44: a run from IDLE to IDLE begins and ends with all commands answered. -/
theorem runLaw : Obligations.RunLaw := by
  intro k s t hinv hst hins hrun ht
  have hstart : RunProgress s.params s.obs s := .settled hst (answeredSince_refl _ _)
  have hanswered := (hstart.of_runSteps hinv hins hrun).answered_of_idle ht
  rw [runSteps_params hrun] at hanswered
  exact ⟨hanswered, complete_of_answeredSince hanswered ht⟩

end Sys2Proof.Machine

/-! SUPPORT. When validation reports each cause, and what a rejected command answers (O45, O46, O47, O48, O49). -/

namespace Sys2Proof.Machine

/-! ### The causes of validation -/

/-- R143, R144: `play` is rejected for the length of its path, and where that fits for a byte outside the charset. -/
theorem checkPath_eq_some {p : Params} {path : List Byte} {c : Cause} :
    checkPath p path = some c ↔
      (c = .pathLength ∧ 254 < path.length)
      ∨ (c = .pathCharset ∧ path.length ≤ 254 ∧ ∃ b ∈ path, b ∉ p.pathCharset) := by
  by_cases hlen : path.length ≤ 254
  · have hshort : ¬ Config.pathMax < path.length := Nat.not_lt.mpr hlen
    simp [checkPath, hshort, hlen, Nat.not_lt.mpr hlen, and_comm, eq_comm (a := c)]
  · have hlong : Config.pathMax < path.length := Nat.lt_of_not_le hlen
    simp [checkPath, hlong, hlen, Nat.lt_of_not_le hlen, eq_comm (a := c)]

/-- R145. -/
theorem checkVolume_eq_some {p : Params} {level : Byte} {c : Cause} :
    checkVolume p level = some c ↔ c = .volumeRange ∧ p.volCheck = true ∧ p.volMax < level := by
  simp [checkVolume, and_comm, eq_comm (a := c)]

/-- R146: the bytes of the three play models are 0, 1 and 2. -/
theorem checkPlayModel_eq_some {model : Byte} {c : Cause} :
    checkPlayModel model = some c ↔ c = .playModel ∧ model ≠ 0x00#8 ∧ model ≠ 0x01#8 ∧ model ≠ 0x02#8 := by
  simp [checkPlayModel, playModelBytes, playModelByte, and_comm, eq_comm (a := c)]

/-- R142 to R148: the condition under which each cause is the one reported. Each names the opcode it belongs to, and the
charset comes after the length, so no two of them meet. -/
def CauseApplies (p : Params) (r : Record) : Cause → Prop
  | .illegalOpcode =>
    r.op ≠ opStop ∧ r.op ≠ opPlay ∧ r.op ≠ opSetVolume ∧ r.op ≠ opSetPlayModel ∧ r.op ≠ opSetLoopCount
  | .pathLength => r.op = opPlay ∧ 254 < r.path.length
  | .pathCharset => r.op = opPlay ∧ r.path.length ≤ 254 ∧ ∃ b ∈ r.path, b ∉ p.pathCharset
  | .volumeRange => r.op = opSetVolume ∧ p.volCheck = true ∧ p.volMax < r.a8
  | .playModel => r.op = opSetPlayModel ∧ r.a8 ≠ 0x00#8 ∧ r.a8 ≠ 0x01#8 ∧ r.a8 ≠ 0x02#8

/-- R142: of a record whose opcode selects no command the opcode is the only cause. -/
theorem causeApplies_of_illegal {p : Params} {r : Record} {op : Byte} (h : decode r = .illegalOpcode op) (c : Cause) :
    CauseApplies p r c ↔ c = .illegalOpcode := by
  obtain ⟨-, hop⟩ := decode_illegal h
  simp only [List.mem_cons, List.not_mem_nil, or_false, not_or] at hop
  cases c <;> simp [CauseApplies, hop]

/-- R148: the cause that validation reports, command by command: each command has its own check only. -/
theorem validate_eq_some {p : Params} {r : Record} {c : Cause} : validate p r = some c ↔ CauseApplies p r c := by
  cases hd : decode r with
  | illegalOpcode op => rw [validate_illegal hd, causeApplies_of_illegal hd, Option.some_inj, eq_comm]
  | instr i =>
    obtain rfl := encode_of_decode hd
    rw [validate_encode]
    cases i with
    | stop => cases c <;> simp [CauseApplies, encode, opStop, opPlay, opSetVolume, opSetPlayModel]
    | play =>
      simp only [checkPath_eq_some]
      cases c <;> simp [CauseApplies, encode, opPlay, opSetVolume, opSetPlayModel]
    | setVolume =>
      simp only [checkVolume_eq_some]
      cases c <;> simp [CauseApplies, encode, opPlay, opSetVolume, opSetPlayModel]
    | setPlayModel =>
      simp only [checkPlayModel_eq_some]
      cases c <;> simp [CauseApplies, encode, opPlay, opSetVolume, opSetPlayModel]
    | setLoopCount =>
      cases c <;> simp [CauseApplies, encode, opPlay, opSetVolume, opSetPlayModel, opSetLoopCount]

/-- Settles O45: cause by cause the condition is that of R148; volumes are compared as numbers. -/
theorem validationReportsFirstCause : Obligations.ValidationReportsFirstCause := fun _ _ =>
  ⟨validate_eq_some, validate_eq_some, validate_eq_some, validate_eq_some, validate_eq_some⟩

/-! ### A rejected command -/

/-- R150, for every command: the record is observed and the response of its cause offered; nothing else is written. -/
theorem exec_of_cause {i : Instr} {s : State} {c : Cause} (hst : s.st = .idle)
    (hcause : CauseApplies s.params (encode i) c) :
    exec i s = .next { s with
      st := .resp, rcode := causeCode c, rinfo := 0#9, obs := s.obs ++ [.accepted (encode i)] } := by
  rw [exec_eq_accept, validate_eq_some.mpr hcause, accept_invalid c _ hst]
  rfl

/-- Settles O46: the one record the step appends is the acceptance, which is no byte on the wire. -/
theorem encodingErrorIsPrecise : Obligations.EncodingErrorIsPrecise := by
  intro inp c s hst hrst hoffer hpres hcause
  obtain ⟨-, hreject⟩ := acceptFollowsValidation inp s hst hrst hoffer hpres
  have hwire : wireOf (s.obs ++ [.accepted inp.cmd]) = wireOf s.obs := by simp [wireOf]
  exact ⟨_, hreject c hcause, rfl, rfl, rfl, hwire, rfl, rfl, rfl, rfl, rfl, rfl, rfl, rfl, rfl⟩

/-- Settles O47: the length is the cause of a long path whatever its bytes are. -/
theorem playErrors : Obligations.PlayErrors := fun _ _ _ _ hst =>
  ⟨fun hlong => exec_of_cause (c := .pathLength) hst ⟨rfl, hlong⟩,
   fun hshort hchar => exec_of_cause (c := .pathCharset) hst ⟨rfl, hshort, hchar⟩⟩

/-- Settles O48: a volume that is not rejected completes, and its latch holds it as presented. -/
theorem setVolumeError : Obligations.SetVolumeError := fun a8 a16 path s hst =>
  ⟨fun hcheck habove => exec_of_cause (c := .volumeRange) hst ⟨rfl, hcheck, habove⟩,
   fun hvolume => ⟨_, setVolumeCompletes a8 a16 path s hst hvolume, rfl, rfl⟩⟩

/-- Settles O49: the three bytes are the only ones that are a play model. -/
theorem setPlayModelError : Obligations.SetPlayModelError := fun _ _ _ _ hst h0 h1 h2 =>
  exec_of_cause (c := .playModel) hst ⟨rfl, h0, h1, h2⟩

end Sys2Proof.Machine

/-! SUPPORT. The order of the events, the responses of the table, and a frame that the sink fails (O50, O51, O43). -/

namespace Sys2Proof.Machine

/-! ### The order of the events -/

theorem sinkFail_emit {s : State} (hst : s.st = .emit) : sinkFail s = .next s.transportError := by
  simp [sinkFail, hst]

theorem take_resp {s : State} (hst : s.st = .resp) :
    take s = .next (s.observe (.response s.rcode s.rinfo)).backToIdle := by
  simp [take, hst]

/-- Settles O50, event by event in the order of R149. -/
theorem eventPriority : Obligations.EventPriority := fun _ s =>
  ⟨portStep_reset s,
   fun hrst hst herr => (portStep_sinkFail hrst hst herr).trans (sinkFail_emit hst).symm,
   portStep_sinkAccept,
   portStep_accept,
   fun hrst hst hready => (portStep_take hrst hst hready).trans (take_resp hst).symm⟩

/-! ### The responses of the table -/

/-- R141: a code of the table is that of a success, of a transport error or of a cause. -/
theorem producedCodes_cases {code : Code4} (h : code ∈ producedCodes) :
    code = codeOk ∨ code = codeTransportError ∨ ∃ c, code = causeCode c := by
  simp only [producedCodes, List.mem_cons, List.not_mem_nil, or_false] at h
  rcases h with rfl | rfl | rfl | rfl | rfl | rfl | rfl
  · exact .inl rfl
  · exact .inr (.inr ⟨.illegalOpcode, rfl⟩)
  · exact .inr (.inr ⟨.pathLength, rfl⟩)
  · exact .inr (.inr ⟨.pathCharset, rfl⟩)
  · exact .inr (.inr ⟨.volumeRange, rfl⟩)
  · exact .inr (.inr ⟨.playModel, rfl⟩)
  · exact .inr (.inl rfl)

/-- R141: the code of a cause is one of 1 to 5, so it is neither of the other two. -/
theorem causeCode_cases (c : Cause) :
    causeCode c = 0x1#4 ∨ causeCode c = 0x2#4 ∨ causeCode c = 0x3#4 ∨ causeCode c = 0x4#4 ∨ causeCode c = 0x5#4 := by
  cases c <;> simp [causeCode]

theorem causeCode_ne_ok (c : Cause) : causeCode c ≠ codeOk := by
  cases c <;> decide

theorem causeCode_ne_transportError (c : Cause) : causeCode c ≠ codeTransportError := by
  cases c <;> decide

/-- Settles O51, by the kinds of code: the invariant has the count that goes with each. -/
theorem offeredResponseIsInTable : Obligations.OfferedResponseIsInTable := by
  intro s hinv hst
  obtain ⟨hok, htransport, hcause⟩ := hinv.resp_info hst
  refine ⟨s.rcode, s.rinfo, State.rspCode_resp hst, State.rspInfo_resp hst, ?_⟩
  rcases producedCodes_cases hinv.code_produced with hcode | hcode | ⟨c, hcode⟩
  · exact .inl ⟨hcode, hok hcode⟩
  · exact .inr (.inr ⟨hcode, htransport hcode⟩)
  · rw [hcode] at hcause ⊢
    exact .inr (.inl ⟨causeCode_cases c, hcause (causeCode_ne_ok c) (causeCode_ne_transportError c)⟩)

/-! ### A frame that the sink fails -/

/-- A run of one step more is a run and a step. -/
theorem runSteps_then_step {k : Nat} {s t u : State} (hrun : runSteps k s = .next t) (hstep : step t = .next u) :
    runSteps (k + 1) s = .next u := by
  induction k generalizing s with
  | zero => cases hrun; exact runSteps_succ hstep
  | succ k ih =>
    obtain ⟨v, hfirst, hrest⟩ := runSteps_succ_cases hrun
    rw [runSteps_succ hfirst]
    exact ih hrest

/-- R124: before its last byte is accepted the frame is in EMIT, and `IDX` counts the bytes the sink has accepted. -/
theorem FrameProgress.emit_of_lt {i : Instr} {before : List Obs} {m : Nat} {s : State}
    (h : FrameProgress i before m s) (hm : m < frameLen i) : s.st = .emit ∧ s.idx.toNat = m := by
  rcases h.phase with ⟨-, hst, hidx⟩ | ⟨rfl, -⟩
  · exact ⟨hst, hidx⟩
  · exact absurd hm (Nat.lt_irrefl _)

/-- R147, R151: a byte that fails after `m` accepted ones ends the frame with those on the wire and counted. -/
theorem FrameProgress.transportError {i : Instr} {before : List Obs} {m : Nat} {s : State}
    (h : FrameProgress i before m s) (hm : m < frameLen i) :
    s.transportError.rspCode = some codeTransportError ∧ s.transportError.rspInfo = some (BitVec.ofNat 9 m)
      ∧ s.transportError.obs = before ++ ((frame i).take m).map Obs.emit := by
  obtain ⟨-, rfl⟩ := h.emit_of_lt hm
  refine ⟨State.rspCode_resp rfl, ?_, h.observed⟩
  rw [State.rspInfo_resp (s := s.transportError) rfl, State.transportError_rinfo, BitVec.ofNat_toNat,
    BitVec.setWidth_eq]

/-- Settles O43: the steps move the frame on by `k` bytes, which leaves it in EMIT, where the failure ends it. -/
theorem failedFrameReportsAcceptedBytes : Obligations.FailedFrameReportsAcceptedBytes := by
  intro s t i ins bad rest k hinv hst hvalid hexec hinputs hins hready hk hrst herr
  obtain ⟨j, hframe, hbegin, htinputs, -⟩ := exec_begins_frame hinv hst hvalid hexec
  rw [← frame_length, ← hframe, frame_length] at hk
  rw [← htinputs] at hinputs
  obtain ⟨v, hrun, hv⟩ := hbegin.runSteps hinputs (by omega) (fun inp hmem => ⟨hins inp hmem, by omega⟩)
  rw [Nat.zero_add, hready] at hv
  have hvinputs : v.inputs = bad :: rest := by rw [runSteps_inputs hrun, hinputs, List.drop_left]
  obtain ⟨hvst, -⟩ := hv.emit_of_lt hk
  have hstep : step v = .next v.popInputs.transportError :=
    (step_of_inputs hvinputs).trans (portStep_sinkFail hrst hvst herr)
  obtain ⟨hcode, hinfo, hobs⟩ := hv.popInputs.transportError hk
  rw [hframe] at hobs
  have hrest : v.popInputs.transportError.inputs = rest := by
    rw [State.transportError_inputs, State.popInputs_inputs, hvinputs, List.tail_cons]
  exact ⟨_, runSteps_then_step hrun hstep, rfl, hcode, hinfo, hobs, hrest⟩

end Sys2Proof.Machine

/-! SUPPORT. The state that reset leaves: its outputs, its observation and its invariant (O52, O53, O58). -/

namespace Sys2Proof.Machine

/-! ### The outputs in IDLE -/

/-- R39, I8: in IDLE the handshakes are fixed and the data outputs carry no value, whatever the registers hold. -/
theorem State.outputs_eq_of_idle {s t : State} (hs : s.st = .idle) (ht : t.st = .idle) :
    t.cmdReady = s.cmdReady ∧ t.txValid = s.txValid ∧ t.txData = s.txData ∧ t.txLast = s.txLast
      ∧ t.rspValid = s.rspValid ∧ t.rspCode = s.rspCode ∧ t.rspInfo = s.rspInfo := by
  have offersNoByte {u : State} (hu : u.st = .idle) : u.txData = none ∧ u.txLast = false :=
    have hne : u.st ≠ .emit := by simp [hu]
    ⟨State.txData_of_ne_emit hne, State.txLast_of_ne_emit hne⟩
  have offersNoResponse {u : State} (hu : u.st = .idle) : u.rspCode = none ∧ u.rspInfo = none :=
    have hne : u.st ≠ .resp := by simp [hu]
    ⟨State.rspCode_of_ne_resp hne, State.rspInfo_of_ne_resp hne⟩
  simp [State.cmdReady, State.txValid, State.rspValid, hs, ht, offersNoByte, offersNoResponse]

/-! ### The reset step -/

/-- Settles O52: the step is the clearing of the registers and its record, both given field by field. -/
theorem resetClearsRegisters : Obligations.ResetClearsRegisters := fun _ s hrst =>
  ⟨_, portStep_reset s hrst, rfl, rfl, rfl, rfl, rfl, rfl, rfl, rfl, rfl, rfl⟩

/-- Settles O53: the `reset` record is no byte, no response and no command, and the state after it is in IDLE. -/
theorem resetDropsTheCommand : Obligations.ResetDropsTheCommand := by
  intro inp s t hrst hstep
  obtain rfl : s.clearRegisters.observe .reset = t :=
    Host.Outcome.next.inj ((portStep_reset s hrst).symm.trans hstep)
  refine ⟨rfl, ?_, ?_, ?_, rfl, rfl, fun hst => State.outputs_eq_of_idle hst rfl⟩
  · simp [wireOf]
  · simp [responsesOf]
  · simp [acceptedOf]

/-! ### The state after reset -/

/-- R160: the state a run begins with has every register at its reset value already. -/
theorem clearRegisters_reset : State.reset.clearRegisters = State.reset := rfl

/-- R10, D5, D6: the default parameters meet each condition on a choice of them. -/
theorem wellFormed_default : Params.default.wellFormed = true := by decide

/-- Settles O58: the reset registers meet the invariant, and the parameters are the defaults. -/
theorem invariantHoldsAtReset : Obligations.InvariantHoldsAtReset :=
  ⟨clearRegisters_reset ▸ invariant_clearRegisters State.reset, wellFormed_default⟩

end Sys2Proof.Machine

/-! SUPPORT. The command port and the schedule: an offered command that decodes is run, one given to a busy block is
not, and a step takes its port values from the schedule (O27, O28, O29, O30). -/

namespace Sys2Proof.Machine

/-! ### The command port -/

/-- R121, R127: outside IDLE no record is sampled (log entry 5). -/
theorem accept_busy {s : State} (cause : Option Cause) (r : Record) (hst : s.st ≠ .idle) : s.accept cause r = s := by
  rcases accept_cases cause r s with ⟨hidle, -, -⟩ | ⟨c, hidle, -, -⟩ | ⟨-, he⟩
  · exact absurd hidle hst
  · exact absurd hidle hst
  · exact he

/-- R123: a record that decodes to a well-formed command is accepted by running that command. -/
theorem acceptRecord_of_decode {r : Record} {i : Instr} {s : State} (hdecode : decode r = .instr i)
    (hwf : i.wellFormed s.params = true) : acceptRecord r s = exec i s := by
  obtain rfl : encode i = r := encode_of_decode hdecode
  rw [acceptRecord_presentable hwf, exec_eq_accept]

/-- Settles O27: every command is an acceptance of its record, which a busy block does not sample. -/
theorem busyBlockTurnsCommandAway : Obligations.BusyBlockTurnsCommandAway := fun i s hst => by
  rw [exec_eq_accept, accept_busy _ _ hst]

/-- Settles O28: the ports choose the acceptance of their record, and consuming them changes neither `ST` nor the
parameters that it reads. -/
theorem stepRunsDecodedCommand : Obligations.StepRunsDecodedCommand := fun i s hst hrst hvalid hdecode hwf =>
  calc step s = acceptRecord s.ports.cmd s.popInputs := portStep_accept hrst hst hvalid
    _ = exec i s.popInputs := acceptRecord_of_decode hdecode hwf

/-! ### The schedule -/

theorem State.popInputs_of_exhausted {s : State} (h : s.inputs = []) : s.popInputs = s := by
  rw [State.popInputs, h, List.tail_nil, ← h]

/-- R122: ports with nothing asserted enable no transfer, whatever `ST` is. -/
theorem portStep_quiet (s : State) : portStep Inputs.quiet s = .next s :=
  portStep_idle rfl (fun _ => rfl) (fun _ => ⟨rfl, rfl⟩) (fun _ => rfl)

theorem step_of_exhausted {s : State} (h : s.inputs = []) : step s = .next s := by
  have hports : s.ports = Inputs.quiet := by rw [State.ports, h, List.headD_nil]
  rw [step_eq_portStep, hports, State.popInputs_of_exhausted h, portStep_quiet]

/-- Settles O29: the first port values are taken off the schedule, and an exhausted one leaves every port quiet. -/
theorem stepTakesScheduledPorts : Obligations.StepTakesScheduledPorts := fun s inp rest =>
  ⟨fun h => by rw [step_of_inputs h, State.popInputs, h, List.tail_cons], step_of_exhausted⟩

/-- Settles O30: the placed word is on the command port of a block in IDLE, where the step runs what it decodes to. -/
theorem placedWordRuns : Obligations.PlacedWordRuns := fun nbits w i s hword hwf =>
  stepRunsDecodedCommand i (s.withFetchWord nbits w) rfl rfl rfl (decodeTableWord_eq_some.mp hword) hwf

end Sys2Proof.Machine
